-- ==== Sys2Proof/Word.lean ====
section
/-! DEFINITION. The words and index types of the Orphax 2416 (spec 00 section 3.3, 01 Table 8). -/

namespace Sys2Proof

/-- A word is 16 bits (00 section 3.3). -/
abbrev Word := BitVec 16

/-- The 20 bits of one slot. Slot bit 0, which is sent first, is the most significant bit here, so slot
bit i is bit 19 − i (01 Table 8, R3). -/
abbrev SlotBits := BitVec 20

/-- A channel of this part, 0 to 15 (00 section 3.3). -/
abbrev Chan := Fin 16

/-- A slot of a frame and an entry of a map bank, 0 to 63 (01 Table 7, R21). -/
abbrev Slot := Fin 64

/-- A station address, or a channel of another station: 4 bits (00 section 3.3). -/
abbrev Address := BitVec 4

end Sys2Proof
end

