-- ==== Sys2Proof/Syntax.lean ====
section
/-! DEFINITION. The commands of the part: one constructor for each row of spec/opcode_table.json, with the
row's operands. The meaning of each is in Machine/. -/

namespace Sys2Proof

/-- The register a command code is written to (11 R173). -/
inductive CmdPort where
  | device   -- DCMD
  | channel  -- CCMD
deriving DecidableEq, Repr

/-- The registers of Table 32 that REGISTER_WRITE reaches: those with no behaviour of their own, those that
are read-only, and the five unused offsets 0x36 to 0x3E (11 R166, R168). -/
inductive PlainReg where
  | darg | ctag | chsel
  | frame | mapstat | chsum | cq0 | cq1
  | txfree | rxlen | rxflags | rxframe0 | rxframe1 | crstat
  | unused (k : Fin 5)
deriving DecidableEq, Repr

/-- The steps of the part. A word operand is the word on D0 to D15; a line operand is the 20 bits read from
HDAT in the slot; a channel operand names the channel whose timer or drain the step is about. Channel
commands act on the channel of CHSEL (03 R51). -/
inductive Instr where
  -- device commands (R173)
  | start
  | stop
  | switch
  | cancel
  | popcq
  | softreset
  | unknownCommandCode (port : CmdPort) (w : Word)
  -- channel commands (R173)
  | chanOpen
  | chanListen
  | chanClose
  | chanReset
  | chanFlush
  | chanPost
  | chanAbandon
  | chanRelease
  -- channel data
  | cdataWrite (w : Word)
  | cdataRead
  -- register writes
  | hcfgWrite (w : Word)
  | hdivWrite (w : Word)
  | devpendWrite (w : Word)
  | devenWrite (w : Word)
  | ceventWrite (w : Word)
  | timingWrite (w : Word)
  | timing2Write (w : Word)
  | cqthrWrite (w : Word)
  | tselWrite (w : Word)
  -- table accesses, at the table and index of TSEL
  | pendingBankWrite (w : Word)
  | regionTableWrite (w : Word)
  | configWordWrite (w : Word)
  | channelCounterRead
  | highwayCounterRead
  | tableRead
  | tableWriteIgnored (w : Word)
  | registerWrite (r : PlainReg) (w : Word)
  -- RESET#, asserted or released
  | resetPin (asserted : Bool)
  -- synchronisation: where HSYNC is found asserted, by its bit clock or its bit position in the running frame
  | acquirePulse (clock : Nat)
  | candidateHeader (line : SlotBits)
  | syncMiss
  | holdoverMiss
  | misplacedPulse (bit : Nat)
  | followerHeaderSlot (line : SlotBits)
  | masterHeaderSlot (line : SlotBits)
  -- steps that fall due at a frame start or when a sending side empties
  | mapSwitch
  | answerTimerExpiry (c : Chan)
  | probeTimerExpiry (c : Chan)
  | refreshTimerExpiry
  -- slots
  | txdataOffer (slot : Slot)
  | txdataReport (line : SlotBits)
  | drainCompletion (c : Chan)
  | txcontrolOffer (slot : Slot)
  | txcontrolReport (line : SlotBits)
  | rxdataWord (slot : Slot) (line : SlotBits)
  | rxcontrolWord (slot : Slot) (line : SlotBits)
  | unusedSlotWord (slot : Slot) (line : SlotBits)
  | pulseAtExpectedBit
deriving DecidableEq, Repr

end Sys2Proof
end

