-- ==== Sys2Proof/WellFormed.lean ====
section
/-! DEFINITION. Which commands are well formed: the operands that name a real event of their row. -/

namespace Sys2Proof

/-- The codes that R173 lists: 1 to 6 for DCMD, 1 to 8 for CCMD. -/
def listedCode (port : CmdPort) (w : Word) : Bool :=
  let code := (w.extractLsb' 0 4).toNat
  match port with
  | .device => 1 ≤ code && code ≤ 6
  | .channel => 1 ≤ code && code ≤ 8

/-- A slot of the part's own service is 1 to 63, because slot 0 is the header slot (01 R4, R6); a misplaced pulse
stands at a bit position after bit 0 and inside the longest frame (01 Table 7, R13); an unknown command
code is one that R173 does not list. Every other operand is a real one whatever its value. -/
def Instr.wf : Instr → Bool
  | .start => true
  | .stop => true
  | .switch => true
  | .cancel => true
  | .popcq => true
  | .softreset => true
  | .unknownCommandCode port w => !listedCode port w
  | .chanOpen => true
  | .chanListen => true
  | .chanClose => true
  | .chanReset => true
  | .chanFlush => true
  | .chanPost => true
  | .chanAbandon => true
  | .chanRelease => true
  | .cdataWrite _ => true
  | .cdataRead => true
  | .hcfgWrite _ => true
  | .hdivWrite _ => true
  | .devpendWrite _ => true
  | .devenWrite _ => true
  | .ceventWrite _ => true
  | .timingWrite _ => true
  | .timing2Write _ => true
  | .cqthrWrite _ => true
  | .tselWrite _ => true
  | .pendingBankWrite _ => true
  | .regionTableWrite _ => true
  | .configWordWrite _ => true
  | .channelCounterRead => true
  | .highwayCounterRead => true
  | .tableRead => true
  | .tableWriteIgnored _ => true
  | .registerWrite _ _ => true
  | .resetPin _ => true
  | .acquirePulse _ => true
  | .candidateHeader _ => true
  | .syncMiss => true
  | .holdoverMiss => true
  | .misplacedPulse bit => 1 ≤ bit && bit < 1280
  | .followerHeaderSlot _ => true
  | .masterHeaderSlot _ => true
  | .mapSwitch => true
  | .answerTimerExpiry _ => true
  | .probeTimerExpiry _ => true
  | .refreshTimerExpiry => true
  | .txdataOffer slot => slot ≠ 0
  | .txdataReport _ => true
  | .drainCompletion _ => true
  | .txcontrolOffer slot => slot ≠ 0
  | .txcontrolReport _ => true
  | .rxdataWord slot _ => slot ≠ 0
  | .rxcontrolWord slot _ => slot ≠ 0
  | .unusedSlotWord slot _ => slot ≠ 0
  | .pulseAtExpectedBit => true

end Sys2Proof
end

