-- ==== Sys2Proof/Decode.lean ====
section
/-! DEFINITION. Which command a host access is, by the register's word address, the code or the table (11 R166, R171, R173,
Table 32), and the command that a word spells by the table's bits. Every row of spec/opcode_table.json has an empty list
of fields and no fixed bits, so no word spells a command (log entry 21). -/

namespace Sys2Proof

/-- The code of a command: bits 3 to 0 of the word written to DCMD or CCMD (11 Table 34). -/
def commandCode (w : Word) : Nat := (w.extractLsb' 0 4).toNat

/-- The command of a word written to DCMD (11 R173). -/
def deviceCommandOfWord (w : Word) : Instr :=
  match commandCode w with
  | 1 => .start
  | 2 => .stop
  | 3 => .switch
  | 4 => .cancel
  | 5 => .popcq
  | 6 => .softreset
  | _ => .unknownCommandCode .device w

/-- The command of a word written to CCMD (11 R173). -/
def channelCommandOfWord (w : Word) : Instr :=
  match commandCode w with
  | 1 => .chanOpen
  | 2 => .chanListen
  | 3 => .chanClose
  | 4 => .chanReset
  | 5 => .chanFlush
  | 6 => .chanPost
  | 7 => .chanAbandon
  | 8 => .chanRelease
  | _ => .unknownCommandCode .channel w

/-- The command of a word written to TDATA, by the table code of TSEL (11 R171). -/
def tableCommandOfWrite (table : Nat) (w : Word) : Instr :=
  match table with
  | 0 => .pendingBankWrite w
  | 2 => .regionTableWrite w
  | 3 => .configWordWrite w
  | _ => .tableWriteIgnored w

/-- The command of a read of TDATA, by the table code of TSEL (11 R171). -/
def tableCommandOfRead (table : Nat) : Instr :=
  match table with
  | 4 => .channelCounterRead
  | 5 => .highwayCounterRead
  | _ => .tableRead

/-- The command of a host write, by the word address A5 to A1, which is the offset of Table 32 divided by two, and the
table code of TSEL (11 R166). -/
def commandOfWrite (address : Fin 32) (table : Nat) (w : Word) : Instr :=
  match address.val with
  | 0 => deviceCommandOfWord w
  | 1 => .registerWrite .darg w
  | 2 => .hcfgWrite w
  | 3 => .hdivWrite w
  | 4 => .registerWrite .frame w
  | 5 => .registerWrite .mapstat w
  | 6 => .devpendWrite w
  | 7 => .devenWrite w
  | 8 => .registerWrite .chsum w
  | 9 => .timingWrite w
  | 10 => .timing2Write w
  | 11 => .registerWrite .cq0 w
  | 12 => .registerWrite .cq1 w
  | 13 => .cqthrWrite w
  | 14 => .registerWrite .chsel w
  | 15 => channelCommandOfWord w
  | 16 => .cdataWrite w
  | 17 => .registerWrite .ctag w
  | 18 => .ceventWrite w
  | 19 => .registerWrite .txfree w
  | 20 => .registerWrite .rxlen w
  | 21 => .registerWrite .rxflags w
  | 22 => .registerWrite .rxframe0 w
  | 23 => .registerWrite .rxframe1 w
  | 24 => .registerWrite .crstat w
  | 25 => .tselWrite w
  | 26 => tableCommandOfWrite table w
  | n => .registerWrite (.unused (Fin.ofNat 5 (n - 27))) w

/-- The command of a host read: a read of CDATA or TDATA. Every other read leaves the part as it was and is no command
(11 R168; log entry 20). -/
def commandOfRead (address : Fin 32) (table : Nat) : Option Instr :=
  match address.val with
  | 16 => some .cdataRead
  | 26 => some (tableCommandOfRead table)
  | _ => none

/-- The command a word of `nbits` bits spells by the table's bits: none, because no row of the table gives
bits. -/
def decodeTableWord (_nbits _w : Nat) : Option Instr := none

end Sys2Proof
end

