-- ==== Sys2Proof/Config.lean ====
section
/-! DEFINITION. What the part fixes, and the one value the spec leaves open (03 R42). The spec leaves no
result of a command undefined, so there is no free value here. -/

namespace Sys2Proof.Config

/-- The Buffer Memory holds 4096 words (03 R42). -/
def bufferWords : Nat := 4096

/-- What a word of the Buffer Memory that nothing has stored reads as. DESIGN CHOICE, unsafe: R42 calls the
contents undefined after RESET# (log entry 3). -/
def unwrittenWord : Word := 0

/-- A TX Message List holds at most 8 messages (07 R110). -/
def maxMessages : Nat := 8

/-- An RX Record List holds at most 16 records (08 R128). -/
def maxRecords : Nat := 16

/-- The Completion Queue has 32 places (09 R148). -/
def maxReservations : Nat := 32

end Sys2Proof.Config
end

