-- ==== Sys2Proof/Machine/State.lean ====
section
/-! DEFINITION. The state of the part as plain data, why a command can stop, and the state after RESET#. Each
structure is one block of Table 1 (spec 00 section 2.1) or one part of it. -/

namespace Sys2Proof.Machine

/-- Why a command stops. -/
inductive Fault where
  /-- A CDATA access, a TxData offer or an RxData word needs a word of the Buffer Memory outside words 0 to
  4095, which does not exist (03 R42). Raised by `execCdataWrite`, `execCdataRead`, `execTxdataOffer` and
  `execRxdataWord`. Safe: R46 keeps every region in use inside the memory (log entry 5). -/
  | bufferAddress (address : Nat)
deriving DecidableEq, Repr

/-- Why a command is refused by the model. -/
inductive Refusal where
  /-- The row has no meaning yet. No arm answers with it. Safe. -/
  | notModelled (mnemonic : String)
deriving DecidableEq, Repr

/-! ### Codes (11 Table 33) -/

/-- Highway role (01 R1). -/
inductive Role where | follower | master
deriving DecidableEq, Repr

/-- Sync state (01 Table 10). -/
inductive Sync where | off | acquire | locked | holdover
deriving DecidableEq, Repr

/-- Command result (11 R169). -/
inductive CmdResult where | done | wrongState | badConfig | noRoom | nothing | spoiled
deriving DecidableEq, Repr

/-- Link state (03 Table 17). -/
inductive LinkState where | closed | listen | opening | opened | drain | closeWait | yield | fault
deriving DecidableEq, Repr

/-- Cause of the last entry into CLOSED or FAULT (03 R48). -/
inductive Cause where | none | closed | hostReset | peerReset | noAnswer | refused | closeTimeout
deriving DecidableEq, Repr

/-- Completion status (09 Table 29). -/
inductive CqStatus where | sent | clashed | flushed | peerReset
deriving DecidableEq, Repr

/-- Channel mode (03 R37). -/
inductive Mode where | credit | stream
deriving DecidableEq, Repr

/-- Notify mode (08 R144). -/
inductive Notify where | off | message | level
deriving DecidableEq, Repr

/-- Slot-word kind (01 Table 9). -/
inductive Kind where | control | header | first | middle | last | only | fill | idle
deriving DecidableEq, Repr

/-- Control opcode (04 Table 21). -/
inductive Opcode where | open_ | openAck | close | closeAck | reset | probe | wordLevel | msgLevel
deriving DecidableEq, Repr

/-- Class of a Control Output Queue entry (04 R59). -/
inductive CtlClass where | request | response
deriving DecidableEq, Repr

/-- A map entry's use with its argument (02 Table 12). Unused and TxControl have no argument, which reads 0. -/
inductive MapUse where
  | unused
  | txData (c : Chan)
  | rxData (c : Chan)
  | txControl
  | rxControl (station : Address)
deriving DecidableEq, Repr

/-- Name of a map bank (02 R21). -/
inductive BankName where | a | b
deriving DecidableEq, Repr

/-- The highway counters in the order of 01 Table 11. -/
inductive HwCounter where
  | checkErrors | clashes | headerFaults | syncMisses | frameSlips | strays | kindMismatches
  | malformedControl | unmatchedControl
deriving DecidableEq, Repr

/-- The channel counters in the order of 03 Table 18. -/
inductive ChCounter where
  | underruns | rxWordsLost | messagesLost | orphans | creditViolations | restarts
deriving DecidableEq, Repr

/-- The latched device events in the order of DEVPEND (11 Table 34). -/
inductive DevEvent where
  | lockGained | lockLost | masterConflict | frameSlip | mapSwitched | mapLate | lineError
deriving DecidableEq, Repr

/-- The latched channel events in the order of CEVENT (11 Table 34). -/
inductive ChEvent where | stateChange | writeRefused | readEmpty | rxTrouble
deriving DecidableEq, Repr

/-! ### A channel (03 Table 13) -/

/-- A Region Table word, in units of 16 words (03 Table 16). -/
structure Region where
  base : Nat
  size : Nat
deriving DecidableEq, Repr

/-- The six configuration words of a channel (03 Table 15). -/
structure ChanConfig where
  mode : Mode
  peerStation : Address
  peerChannel : Address
  notify : Notify
  maxLength : Nat
  fillValue : Word
  rxThreshold : Nat
  txThreshold : Nat
  /-- Event enable mask, in CEVENT positions. -/
  enables : BitVec 6
deriving DecidableEq, Repr

/-- The link record (05 R70). The answer timer is stopped (none) or running with a remaining count; a remaining
count of 0 is an expiry that is due and not yet taken (log entry 8). -/
structure LinkRecord where
  state : LinkState
  cause : Cause
  answerTimer : Option Nat
  retriesLeft : Nat
deriving DecidableEq, Repr

/-- A level-due mark (04 R63). `chosen` says that its word is on the line in the slot in progress and the mark
was neither set again nor cleared since the offer (04 R67; log entry 18). -/
structure Mark where
  set : Bool
  chosen : Bool
deriving DecidableEq, Repr

/-- The eight credit totals, mod 32 (06 R95, R102). -/
structure Credits where
  wordGranted : BitVec 5
  msgGranted : BitVec 5
  wordCounted : BitVec 5
  msgCounted : BitVec 5
  wordHeard : BitVec 5
  msgHeard : BitVec 5
  wordUsed : BitVec 5
  msgUsed : BitVec 5
deriving DecidableEq, Repr

/-- A record of the TX Message List (07 R110). -/
structure TxMessage where
  tag : Word
  length : Nat
  sent : Nat
  clashed : Bool
  restarted : Bool
deriving DecidableEq, Repr

/-- The sending side of a channel (07 R110, R118). -/
structure TxSide where
  /-- Free position of the TX region, counted from its first word (03 R42). -/
  free : Nat
  messages : List TxMessage
  composing : Nat
  spoiled : Bool
  tag : Word
  /-- The end marks of the FIFO words, oldest first; the words are in the TX region. -/
  fifo : List Bool
  openMessage : Bool
  inProgress : Bool
  pendingEnd : Bool
  restartMark : Bool
  /-- A word of the list's head (credit) or the oldest FIFO word (stream) is on the line. -/
  onLine : Bool
deriving DecidableEq, Repr

/-- The flags of a receive record (08 R128). -/
structure RxFlags where
  broken : Bool
  damaged : Bool
  truncated : Bool
  overrun : Bool
  aborted : Bool
deriving DecidableEq, Repr

/-- A record of the RX Record List (08 R128). -/
structure RxRecord where
  length : Nat
  complete : Bool
  flags : RxFlags
  firstFrame : Word
  lastFrame : Option Word
  readPos : Nat
deriving DecidableEq, Repr

/-- The receiving side of a channel (08 R128). -/
structure RxSide where
  /-- Free position of the RX region, counted from its first word (03 R42). -/
  free : Nat
  records : List RxRecord
  discard : Bool
deriving DecidableEq, Repr

/-- Everything the part holds for one channel (03 Table 13). -/
structure Channel where
  config : ChanConfig
  txRegion : Region
  rxRegion : Region
  link : LinkRecord
  /-- Probe timer: stopped, or running with its count (06 R107). -/
  probe : Option Nat
  wordMark : Mark
  msgMark : Mark
  credits : Credits
  tx : TxSide
  rx : RxSide
  /-- StateChange, WriteRefused, ReadEmpty, RxTrouble in CEVENT positions 0 to 3 (10 R160). -/
  latches : BitVec 4
  counters : Vector (BitVec 8) 6
deriving DecidableEq, Repr

/-! ### The blocks -/

/-- What the Host Port holds (11 Table 36). `readData` is the model's own (log entry 14). -/
structure HostPort where
  selected : Chan
  creditView : Bool
  table : Nat
  index : Nat
  darg : Word
  deviceResult : CmdResult
  channelResult : CmdResult
  readData : Option Word
deriving DecidableEq, Repr

/-- Who drives the word on the line, and for a stream channel which kind of word it is (07 R123). -/
inductive LineOwner where
  | creditData (c : Chan)
  | streamWord (c : Chan)
  | streamFill (c : Chan)
  | streamEnd (c : Chan)
  | control
deriving DecidableEq, Repr

/-- The word the part drives in the slot in progress (01 R4). -/
structure LineWord where
  bits : SlotBits
  owner : LineOwner
deriving DecidableEq, Repr

/-- Slot position (01 R16, R20): no frame runs; slot 0 is in progress; or the frame start was given and slot
`last` was the last slot begun. -/
inductive SlotPosition where
  | none
  | header
  | served (last : Nat)
deriving DecidableEq, Repr

/-- What the Highway Interface holds (01 R20). -/
structure Highway where
  role : Role
  station : Address
  lengthCode : BitVec 2
  divider : BitVec 8
  sync : Sync
  frame : Word
  position : SlotPosition
  /-- Bit clock at which the running frame began (log entry 12). -/
  frameBit : Nat
  /-- Bit clock of the last HSYNC pulse seen since ACQUIRE was entered (01 R12). -/
  lastPulse : Option Nat
  /-- Bit clock at which HSYNC was last found asserted, by which a pulse is told from a held HSYNC (01 R1; log
  entry 29). -/
  hsyncBit : Option Nat
  /-- Slot 0 of a candidate frame is being read (01 R12). -/
  candidate : Bool
  line : Option LineWord
  counters : Vector (BitVec 8) 9
deriving DecidableEq, Repr

/-- What the Slot Map holds (02 R21, R34). `dueFrame` is the settled frame number of a frame start whose test of the
pending switch is not yet made (02 R29; log entry 8). -/
structure SlotMap where
  bankA : Vector MapUse 64
  bankB : Vector MapUse 64
  active : BankName
  target : Option Word
  checkedN : Nat
  dueFrame : Option Word
deriving DecidableEq, Repr

/-- An entry of the Control Output Queue (04 R59). `chosen` says that its word is on the line in the slot in
progress and the entry was not replaced since the offer (04 R67; log entry 18). -/
structure CtlEntry where
  chan : Chan
  cls : CtlClass
  opcode : Opcode
  destStation : Address
  destChannel : Address
  chosen : Bool
deriving DecidableEq, Repr

/-- What the Link Controller holds for the whole part (04 R69, 05 R94, 06 R108). -/
structure LinkControl where
  queue : List CtlEntry
  lastPosition : Fin 32
  refreshCount : Nat
  refreshInterval : Nat
  probeDelay : Nat
  answerTimeout : Nat
  retryCount : Nat
deriving DecidableEq, Repr

/-- An entry of the Completion Queue (09 R147). -/
structure CqEntry where
  chan : Chan
  tag : Word
  status : CqStatus
  restarted : Bool
  endFrame : Word
deriving DecidableEq, Repr

/-- What the Completion Queue holds (09 R155). -/
structure Completions where
  entries : List CqEntry
  reservations : Nat
  threshold : Nat
deriving DecidableEq, Repr

/-- What the Event Unit holds for the whole part (10 R165): latches, enables, the last level values handed to it,
the channel summary and the interrupt line. -/
structure EventUnit where
  latches : BitVec 7
  enables : BitVec 8
  cqReady : Bool
  rxReady : BitVec 16
  txSpace : BitVec 16
  summary : BitVec 16
  intAsserted : Bool
deriving DecidableEq, Repr

/-- The Buffer Memory: (word address, word) pairs, addresses strictly rising, no word listed that an unlisted
word reads as (log entries 3 and 4). -/
abbrev Memory := List (Nat × Word)

/-- The whole part, and the queue of commands that wait. -/
structure State where
  /-- RESET# is asserted (11 R176). -/
  resetPin : Bool
  host : HostPort
  hwi : Highway
  map : SlotMap
  memory : Memory
  chans : Vector Channel 16
  lnk : LinkControl
  cq : Completions
  evu : EventUnit
  /-- The commands that wait, first in, first out. -/
  pending : List Instr
deriving DecidableEq, Repr

/-! ### Values after RESET# -/

/-- 03 R41. -/
def ChanConfig.reset : ChanConfig :=
  { mode := .credit, peerStation := 0, peerChannel := 0, notify := .off, maxLength := 256, fillValue := 0,
    rxThreshold := 1, txThreshold := 0, enables := 0 }

/-- 05 R70. -/
def LinkRecord.reset : LinkRecord := { state := .closed, cause := .none, answerTimer := none, retriesLeft := 0 }

/-- 04 R64. -/
def Mark.clear : Mark := { set := false, chosen := false }

/-- 06 R95, R102: every total 0; also the value a zeroing gives (R105). -/
def Credits.zero : Credits :=
  { wordGranted := 0, msgGranted := 0, wordCounted := 0, msgCounted := 0,
    wordHeard := 0, msgHeard := 0, wordUsed := 0, msgUsed := 0 }

/-- 07 R110, R118. -/
def TxSide.reset : TxSide :=
  { free := 0, messages := [], composing := 0, spoiled := false, tag := 0, fifo := [], openMessage := false,
    inProgress := false, pendingEnd := false, restartMark := false, onLine := false }

/-- 08 R128: no flag. -/
def RxFlags.clear : RxFlags :=
  { broken := false, damaged := false, truncated := false, overrun := false, aborted := false }

/-- 08 R146. -/
def RxSide.reset : RxSide := { free := 0, records := [], discard := false }

/-- 03 R41, R45, R49, R50. -/
def Channel.reset : Channel :=
  { config := .reset, txRegion := ⟨0, 0⟩, rxRegion := ⟨0, 0⟩, link := .reset, probe := none, wordMark := .clear,
    msgMark := .clear, credits := .zero, tx := .reset, rx := .reset, latches := 0,
    counters := Vector.replicate 6 0 }

/-- 11 Table 36; `readData` by log entry 14. -/
def HostPort.reset : HostPort :=
  { selected := 0, creditView := false, table := 0, index := 0, darg := 0, deviceResult := .done,
    channelResult := .done, readData := none }

/-- 01 R20; `frameBit` by log entry 12, `hsyncBit` by log entry 29. -/
def Highway.reset : Highway :=
  { role := .follower, station := 0, lengthCode := 0, divider := 0, sync := .off, frame := 0, position := .none,
    frameBit := 0, lastPulse := none, hsyncBit := none, candidate := false, line := none, counters := Vector.replicate 9 0 }

/-- 02 R36. -/
def SlotMap.reset : SlotMap :=
  { bankA := Vector.replicate 64 .unused, bankB := Vector.replicate 64 .unused, active := .a, target := none,
    checkedN := 8, dueFrame := none }

/-- 04 R69, 05 R94, 06 R108. -/
def LinkControl.reset : LinkControl :=
  { queue := [], lastPosition := 31, refreshCount := 0, refreshInterval := 0, probeDelay := 32,
    answerTimeout := 16, retryCount := 3 }

/-- 09 R155. -/
def Completions.reset : Completions := { entries := [], reservations := 0, threshold := 1 }

/-- 10 R165. -/
def EventUnit.reset : EventUnit :=
  { latches := 0, enables := 0, cqReady := false, rxReady := 0, txSpace := 0, summary := 0, intAsserted := false }

/-- The part right after RESET# is released (11 R176): every block at its reset value and nothing waiting. -/
def State.reset : State :=
  { resetPin := false, host := .reset, hwi := .reset, map := .reset, memory := [],
    chans := Vector.replicate 16 .reset, lnk := .reset, cq := .reset, evu := .reset, pending := [] }

end Sys2Proof.Machine
end

