-- ==== Sys2Proof/Machine/Ops.lean ====
section
/-! DEFINITION. The shared operations over the state: the Buffer Memory, regions, counters, results, one channel
of sixteen, the map banks, the outcome of a command. -/

namespace Sys2Proof.Machine

/-! ### Outcomes -/

/-- The outcome type of every command. -/
abbrev Out := Host.Outcome State Fault Refusal

/-- While RESET# is asserted no command but RESET_PIN has an effect (11 R176; log entry 13). -/
def whenLive (s : State) (k : Out) : Out := if s.resetPin then .next s else k

/-! ### The Buffer Memory (03 R42) -/

/-- The word at address `a`: a listed word, or what an unlisted word reads as. -/
def Memory.read : Memory → Nat → Word
  | [], _ => Config.unwrittenWord
  | (k, w) :: rest, a => if k = a then w else Memory.read rest a

/-- Stores `w` at address `a`, keeping the canonical form. -/
def Memory.write : Memory → Nat → Word → Memory
  | [], a, w => if w = Config.unwrittenWord then [] else [(a, w)]
  | (k, v) :: rest, a, w =>
    if a < k then (if w = Config.unwrittenWord then (k, v) :: rest else (a, w) :: (k, v) :: rest)
    else if a = k then (if w = Config.unwrittenWord then rest else (a, w) :: rest)
    else (k, v) :: Memory.write rest a w

/-- Every listed address is at least `lo`, addresses rise strictly, and no listed word equals what an unlisted
word reads as. -/
def Memory.wfFrom : Nat → Memory → Bool
  | _, [] => true
  | lo, (k, w) :: rest => decide (lo ≤ k) && decide (w ≠ Config.unwrittenWord) && Memory.wfFrom (k + 1) rest

/-- The canonical form, with every listed address a word of the memory. -/
def Memory.wf (m : Memory) : Bool := Memory.wfFrom 0 m && m.all (fun p => p.1 < Config.bufferWords)

/-! ### Regions (03 R42, Table 16) -/

/-- Words of a region: 16 × size (R42). -/
def Region.capacity (r : Region) : Nat := 16 * r.size

/-- Word address of the word `k` places after offset `free` in the circular region (R42). -/
def Region.wordAt (r : Region) (free k : Nat) : Nat := 16 * r.base + (free + k) % r.capacity

/-- A region with words ends inside the memory (R46 test 2). -/
def Region.inside (r : Region) : Bool := r.size == 0 || r.base + r.size ≤ 256

/-- Two regions share at least one word (03 section 3.4). A region of size 0 overlaps nothing. -/
def Region.overlaps (r q : Region) : Bool :=
  r.size != 0 && q.size != 0 && decide (r.base < q.base + q.size) && decide (q.base < r.base + r.size)

/-- Held count of the TX region (R42): the words of the list's messages and of the composing message, and the
FIFO words. -/
def TxSide.held (t : TxSide) : Nat := (t.messages.map (·.length)).sum + t.composing + t.fifo.length

/-- Held words (06 R95, 08 R128): the sum of the lengths stored. -/
def RxSide.held (r : RxSide) : Nat := (r.records.map (·.length)).sum

/-- The channel holds stored words (03 R39): RX records, composing words or FIFO words. -/
def Channel.hasStoredWords (ch : Channel) : Bool :=
  !ch.rx.records.isEmpty || decide (0 < ch.tx.composing) || !ch.tx.fifo.isEmpty

/-- Address of the store position of the TX region (R42). -/
def Channel.txStoreAddr (ch : Channel) : Nat := ch.txRegion.wordAt ch.tx.free ch.tx.held

/-- Address of the store position of the RX region (R42). -/
def Channel.rxStoreAddr (ch : Channel) : Nat := ch.rxRegion.wordAt ch.rx.free ch.rx.held

/-- Free words of the TX region (07 R125). -/
def Channel.txFree (ch : Channel) : Nat := ch.txRegion.capacity - ch.tx.held

/-! ### Channels -/

/-- The state of channel `c`. -/
def State.chan (s : State) (c : Chan) : Channel := s.chans[c]

/-- The state with channel `c` replaced. -/
def State.setChan (s : State) (c : Chan) (ch : Channel) : State := { s with chans := s.chans.set c ch }

/-- The state with channel `c` changed by `f`. -/
def State.modChan (s : State) (c : Chan) (f : Channel → Channel) : State := s.setChan c (f (s.chan c))

/-- The state with every channel changed by `f`. -/
def State.mapChans (s : State) (f : Channel → Channel) : State := { s with chans := s.chans.map f }

/-- The channel named by CHSEL (03 R51). -/
def State.selectedChan (s : State) : Channel := s.chan s.host.selected

/-- The connected group (03 Table 17). -/
def LinkState.connected : LinkState → Bool
  | .opened | .drain | .closeWait | .yield => true
  | .closed | .listen | .opening | .fault => false

/-- A credit channel in a connected state. -/
def Channel.creditConnected (ch : Channel) : Bool := ch.config.mode == .credit && ch.link.state.connected

/-- A receiving state (08 section 8.2): connected for a credit channel, OPEN or DRAIN for a stream channel. -/
def Channel.receiving (ch : Channel) : Bool :=
  match ch.config.mode with
  | .credit => ch.link.state.connected
  | .stream => ch.link.state == .opened || ch.link.state == .drain

/-! ### Counters (00 section 3.3, 01 R17, 03 R50) -/

/-- An advance adds one; a counter at 255 stays at 255. -/
def advance (v : BitVec 8) : BitVec 8 := if v = 255 then v else v + 1

/-- Position of a highway counter in table 5 (01 Table 11). -/
def HwCounter.index : HwCounter → Fin 9
  | .checkErrors => 0
  | .clashes => 1
  | .headerFaults => 2
  | .syncMisses => 3
  | .frameSlips => 4
  | .strays => 5
  | .kindMismatches => 6
  | .malformedControl => 7
  | .unmatchedControl => 8

/-- Position of a channel counter in the channel's six words of table 4 (03 Table 18). -/
def ChCounter.index : ChCounter → Fin 6
  | .underruns => 0
  | .rxWordsLost => 1
  | .messagesLost => 2
  | .orphans => 3
  | .creditViolations => 4
  | .restarts => 5

/-- Advances a highway counter (01 R17). -/
def Highway.count (h : Highway) (k : HwCounter) : Highway :=
  { h with counters := h.counters.set k.index (advance h.counters[k.index]) }

/-- Advances a highway counter at the request of any block (01 section 1.8). -/
def State.countHw (s : State) (k : HwCounter) : State := { s with hwi := s.hwi.count k }

/-- Advances a channel counter (03 R50). -/
def Channel.count (ch : Channel) (k : ChCounter) : Channel :=
  { ch with counters := ch.counters.set k.index (advance ch.counters[k.index]) }

/-! ### Results (11 R169) -/

/-- The device result of DSTAT. -/
def State.setDeviceResult (s : State) (r : CmdResult) : State :=
  { s with host := { s.host with deviceResult := r } }

/-- The channel result of CSTAT. -/
def State.setChannelResult (s : State) (r : CmdResult) : State :=
  { s with host := { s.host with channelResult := r } }

/-! ### Frame length and map banks (01 Table 7, 02 R21) -/

/-- Slots per frame for a frame length code (01 Table 7). -/
def slotsOfCode (code : BitVec 2) : Nat := 8 * 2 ^ code.toNat

/-- N, by the frame length code of HCFG. -/
def State.slots (s : State) : Nat := slotsOfCode s.hwi.lengthCode

/-- The other bank. -/
def BankName.other : BankName → BankName
  | .a => .b
  | .b => .a

/-- The entries of a bank. -/
def SlotMap.bank (m : SlotMap) : BankName → Vector MapUse 64
  | .a => m.bankA
  | .b => m.bankB

/-- The map with a bank's entries replaced. -/
def SlotMap.setBank (m : SlotMap) (n : BankName) (v : Vector MapUse 64) : SlotMap :=
  match n with
  | .a => { m with bankA := v }
  | .b => { m with bankB := v }

/-- The active bank. -/
def SlotMap.activeBank (m : SlotMap) : Vector MapUse 64 := m.bank m.active

/-- The pending bank. -/
def SlotMap.pendingBank (m : SlotMap) : Vector MapUse 64 := m.bank m.active.other

/-- The active entry of slot `n` (01 R4, R6). -/
def State.entryOf (s : State) (n : Slot) : MapUse := s.map.activeBank[n]

/-- How many of the entries 1 to n − 1 of a bank are TxControl (02 R28). -/
def txControlCount (bank : Vector MapUse 64) (n : Nat) : Nat :=
  (List.finRange 64).countP (fun i => decide (0 < i.val) && decide (i.val < n) && decide (bank[i] = .txControl))

end Sys2Proof.Machine
end

