-- ==== Sys2Proof/Machine/Operands.lean ====
section
/-! DEFINITION. The formats of words: slot words (01 Tables 8 and 9), control words (04 Tables 20 and 21), the
codes and the fields of the registers and tables (11 Tables 33 to 35). -/

namespace Sys2Proof.Machine

/-! ### Slot words -/

/-- The number of ones of a bit vector. -/
def onesOf {n : Nat} (x : BitVec n) : Nat := (List.range n).countP (fun i => x.getLsbD i)

/-- A slot word passes its check when its 20 bits hold an even number of ones (01 R3). -/
def checkPasses (line : SlotBits) : Bool := onesOf line % 2 == 0

/-- Kind codes (01 Table 9). -/
def Kind.code : Kind → BitVec 3
  | .control => 0
  | .header => 1
  | .first => 2
  | .middle => 3
  | .last => 4
  | .only => 5
  | .fill => 6
  | .idle => 7

/-- The kind that a code names (01 Table 9). -/
def kindOfCode (k : BitVec 3) : Kind :=
  match k.toNat with
  | 0 => .control
  | 1 => .header
  | 2 => .first
  | 3 => .middle
  | 4 => .last
  | 5 => .only
  | 6 => .fill
  | _ => .idle

/-- First, Middle, Last or Only: a data word (00 Table 3). -/
def Kind.isData : Kind → Bool
  | .first | .middle | .last | .only => true
  | .control | .header | .fill | .idle => false

/-- First or Only: the word that starts a message. -/
def Kind.starts : Kind → Bool
  | .first | .only => true
  | .control | .header | .middle | .last | .fill | .idle => false

/-- The kind field: slot bits 0 to 2 (01 Table 8). -/
def lineKind (line : SlotBits) : Kind := kindOfCode (line.extractLsb' 17 3)

/-- The payload: slot bits 3 to 18 (01 Table 8). -/
def linePayload (line : SlotBits) : Word := line.extractLsb' 1 16

/-- The 20 bits the HWI drives for a kind and a payload, with the check bit that makes the number of ones even
(01 R3). -/
def slotWord (k : Kind) (payload : Word) : SlotBits :=
  let body : BitVec 19 := k.code ++ payload
  body ++ BitVec.ofNat 1 (onesOf body % 2)

/-- What the HWI makes of a received word (01 R3): a check error has no kind. -/
inductive Received where
  | checkError
  | word (k : Kind) (payload : Word)
deriving DecidableEq, Repr

/-- Classification of the 20 bits of a slot (01 R3). -/
def receive (line : SlotBits) : Received :=
  if checkPasses line then .word (lineKind line) (linePayload line) else .checkError

/-- The payload of a valid Header, if the word is one (01 R8). -/
def validHeader (line : SlotBits) : Option Word :=
  match receive line with
  | .word .header payload => some payload
  | _ => none

/-- A driven word clashed: at some bit the part drove a 1 and read a 0 (01 R5). -/
def clashed (driven read : SlotBits) : Bool := decide (driven &&& ~~~read ≠ 0)

/-! ### Control words -/

/-- Control opcodes (04 Table 21). -/
def Opcode.code : Opcode → BitVec 3
  | .open_ => 0
  | .openAck => 1
  | .close => 2
  | .closeAck => 3
  | .reset => 4
  | .probe => 5
  | .wordLevel => 6
  | .msgLevel => 7

/-- The opcode that a code names (04 Table 21). -/
def opcodeOfCode (k : BitVec 3) : Opcode :=
  match k.toNat with
  | 0 => .open_
  | 1 => .openAck
  | 2 => .close
  | 3 => .closeAck
  | 4 => .reset
  | 5 => .probe
  | 6 => .wordLevel
  | _ => .msgLevel

/-- Opcodes 6 and 7 are the level opcodes, 0 to 5 the handshake opcodes (04 Table 21). -/
def Opcode.isLevel : Opcode → Bool
  | .wordLevel | .msgLevel => true
  | .open_ | .openAck | .close | .closeAck | .reset | .probe => false

/-- The payload of a control word (04 Table 20). -/
def controlPayload (station channel : Address) (op : Opcode) (value : BitVec 5) : Word :=
  station ++ channel ++ op.code ++ value

/-- Destination station: payload bits 15 to 12 (04 Table 20). -/
def ctlStation (w : Word) : Address := w.extractLsb' 12 4

/-- Destination channel: payload bits 11 to 8 (04 Table 20). -/
def ctlChannel (w : Word) : Address := w.extractLsb' 8 4

/-- Opcode: payload bits 7 to 5 (04 Table 20). -/
def ctlOpcode (w : Word) : Opcode := opcodeOfCode (w.extractLsb' 5 3)

/-- Value: payload bits 4 to 0 (04 Table 20). -/
def ctlValue (w : Word) : BitVec 5 := w.extractLsb' 0 5

/-- A channel number as a 4-bit field. -/
def chanField (c : Chan) : Address := BitVec.ofNat 4 c.val

/-- The channel that a 4-bit field names: every value names one (04 R55). -/
def chanOfField (a : Address) : Chan := a.toFin

/-! ### Codes of registers (11 Table 33) -/

/-- Sync state. -/
def Sync.code : Sync → BitVec 2
  | .off => 0
  | .acquire => 1
  | .locked => 2
  | .holdover => 3

/-- Role. -/
def Role.code : Role → BitVec 1
  | .follower => 0
  | .master => 1

/-- Result. -/
def CmdResult.code : CmdResult → BitVec 3
  | .done => 0
  | .wrongState => 1
  | .badConfig => 2
  | .noRoom => 3
  | .nothing => 4
  | .spoiled => 5

/-- Link state. -/
def LinkState.code : LinkState → BitVec 3
  | .closed => 0
  | .listen => 1
  | .opening => 2
  | .opened => 3
  | .drain => 4
  | .closeWait => 5
  | .yield => 6
  | .fault => 7

/-- Cause. -/
def Cause.code : Cause → BitVec 3
  | .none => 0
  | .closed => 1
  | .hostReset => 2
  | .peerReset => 3
  | .noAnswer => 4
  | .refused => 5
  | .closeTimeout => 6

/-- Completion status. -/
def CqStatus.code : CqStatus → BitVec 2
  | .sent => 0
  | .clashed => 1
  | .flushed => 2
  | .peerReset => 3

/-- Active bank. -/
def BankName.code : BankName → BitVec 1
  | .a => 0
  | .b => 1

/-- Mode. -/
def Mode.code : Mode → BitVec 2
  | .credit => 0
  | .stream => 1

/-- Notify mode. -/
def Notify.code : Notify → BitVec 2
  | .off => 0
  | .message => 1
  | .level => 2

/-- A Bool as one bit. -/
def bit (b : Bool) : BitVec 1 := BitVec.ofBool b

/-- The word carries a code that R173 lists, 1 to 6 for DCMD and 1 to 8 for CCMD: the decoder makes another command of
it than UNKNOWN_COMMAND_CODE. -/
def codeListed (port : CmdPort) (w : Word) : Bool :=
  match port with
  | .device => decide (deviceCommandOfWord w ≠ .unknownCommandCode .device w)
  | .channel => decide (channelCommandOfWord w ≠ .unknownCommandCode .channel w)

/-! ### Table entries (11 Table 35) -/

/-- A map entry as it reads: 3–0 argument, 10–8 use. -/
def MapUse.word : MapUse → Word
  | .unused => 0
  | .txData c => BitVec.ofNat 16 (0x100 + c.val)
  | .rxData c => BitVec.ofNat 16 (0x200 + c.val)
  | .txControl => 0x300
  | .rxControl p => BitVec.ofNat 16 (0x400 + p.toNat)

/-- The entry that a written word names, or none for a use code of 5 to 7 (02 R25). -/
def mapUseOfWord (w : Word) : Option MapUse :=
  let arg : Address := w.extractLsb' 0 4
  match (w.extractLsb' 8 3).toNat with
  | 0 => some .unused
  | 1 => some (.txData (chanOfField arg))
  | 2 => some (.rxData (chanOfField arg))
  | 3 => some .txControl
  | 4 => some (.rxControl arg)
  | _ => none

/-- A Region Table word as it reads: 6–0 size, 15–8 base. -/
def Region.word (r : Region) : Word := BitVec.ofNat 16 (r.base * 256 + r.size)

/-- The region that a written word names, or none for a size of 65 or more (03 R45). -/
def regionOfWord (w : Word) : Option Region :=
  let size := (w.extractLsb' 0 7).toNat
  if size ≤ 64 then some ⟨(w.extractLsb' 8 8).toNat, size⟩ else none

/-- Configuration word `k` of a channel as it reads. -/
def ChanConfig.word (g : ChanConfig) (k : Nat) : Word :=
  match k with
  | 0 => (0 : BitVec 6) ++ g.mode.code ++ g.peerStation ++ g.peerChannel
  | 1 => (0 : BitVec 2) ++ g.notify.code ++ (0 : BitVec 3) ++ BitVec.ofNat 9 g.maxLength
  | 2 => g.fillValue
  | 3 => BitVec.ofNat 16 g.rxThreshold
  | 4 => BitVec.ofNat 16 g.txThreshold
  | _ => (0 : BitVec 10) ++ g.enables

/-- The configuration with word `k` written, or none when a field is out of range (03 R38). -/
def ChanConfig.write (g : ChanConfig) (k : Nat) (w : Word) : Option ChanConfig :=
  match k with
  | 0 =>
    let peer := { g with peerStation := w.extractLsb' 4 4, peerChannel := w.extractLsb' 0 4 }
    match (w.extractLsb' 8 2).toNat with
    | 0 => some { peer with mode := .credit }
    | 1 => some { peer with mode := .stream }
    | _ => none
  | 1 =>
    let len := (w.extractLsb' 0 9).toNat
    if 1 ≤ len ∧ len ≤ 256 then
      match (w.extractLsb' 12 2).toNat with
      | 0 => some { g with maxLength := len, notify := .off }
      | 1 => some { g with maxLength := len, notify := .message }
      | 2 => some { g with maxLength := len, notify := .level }
      | _ => none
    else none
  | 2 => some { g with fillValue := w }
  | 3 =>
    let t := (w.extractLsb' 0 11).toNat
    if 1 ≤ t ∧ t ≤ 1024 then some { g with rxThreshold := t } else none
  | 4 =>
    let t := (w.extractLsb' 0 11).toNat
    if t ≤ 1024 then some { g with txThreshold := t } else none
  | _ => some { g with enables := w.extractLsb' 0 6 }

/-- Words of each table (11 Table 35). -/
def tableSize (t : Nat) : Nat :=
  match t with
  | 0 => 64
  | 1 => 64
  | 2 => 32
  | 3 => 96
  | 4 => 96
  | _ => 9

/-- The channel of index `i` in a table of `k` words a channel (11 Table 35). -/
def chanOfIndex (i k : Nat) : Chan := Fin.ofNat 16 (i / k)

/-- Table and index of a word written to TSEL, or none when R170 refuses it. -/
def tselOfWord (w : Word) : Option (Nat × Nat) :=
  let t := (w.extractLsb' 8 3).toNat
  let i := (w.extractLsb' 0 7).toNat
  if t ≤ 5 ∧ i < tableSize t then some (t, i) else none

end Sys2Proof.Machine
end

