-- ==== Sys2Proof/Machine/Flags.lean ====
section
/-! DEFINITION. The Event Unit (spec 10): raising and clearing latches, the level conditions, the channel
summary and the interrupt line. -/

namespace Sys2Proof.Machine

/-! ### Latches -/

/-- Position in DEVPEND and DEVEN (11 Table 34). -/
def DevEvent.position : DevEvent → Nat
  | .lockGained => 0
  | .lockLost => 1
  | .masterConflict => 2
  | .frameSlip => 3
  | .mapSwitched => 4
  | .mapLate => 5
  | .lineError => 6

/-- Position in CEVENT and in the enable mask (11 Table 34). -/
def ChEvent.position : ChEvent → Nat
  | .stateChange => 0
  | .writeRefused => 1
  | .readEmpty => 2
  | .rxTrouble => 3

/-- Raises a device event: its latch is set, and a latch already set stays set (10 R156). -/
def State.raise (s : State) (e : DevEvent) : State :=
  { s with evu := { s.evu with latches := s.evu.latches ||| BitVec.twoPow 7 e.position } }

/-- Raises a channel event (10 R160). -/
def Channel.raise (ch : Channel) (e : ChEvent) : Channel :=
  { ch with latches := ch.latches ||| BitVec.twoPow 4 e.position }

/-- Advances a counter that carries LineError, and raises LineError (01 R18). -/
def State.lineFault (s : State) (k : HwCounter) : State := (s.countHw k).raise .lineError

/-! ### Level conditions -/

/-- CqReady holds while the entries held are at least the threshold (09 R154). -/
def State.cqReadyNow (s : State) : Bool := decide (s.cq.threshold ≤ s.cq.entries.length)

/-- RxReady by the notify mode (08 R144). -/
def Channel.rxReadyNow (ch : Channel) : Bool :=
  match ch.config.notify with
  | .off => false
  | .message =>
    match ch.rx.records with
    | [] => false
    | r :: _ => r.complete
  | .level => decide (ch.config.rxThreshold ≤ ch.rx.held) || ch.rx.records.length == Config.maxRecords

/-- TxSpace holds while the threshold is not 0 and the free words are at least the threshold (07 R126). -/
def Channel.txSpaceNow (ch : Channel) : Bool :=
  ch.config.txThreshold != 0 && decide (ch.config.txThreshold ≤ ch.txFree)

/-- A channel's six indications in CEVENT positions: four latches, RxReady, TxSpace (11 Table 34). -/
def cevent (latches : BitVec 4) (rxReady txSpace : Bool) : BitVec 6 := bit txSpace ++ bit rxReady ++ latches

/-- DEVPEND: seven latches and CqReady (11 Table 34). -/
def EventUnit.devpend (e : EventUnit) : BitVec 8 := bit e.cqReady ++ e.latches

/-- The word with bit c given by channel c. -/
def perChannel (f : Chan → Bool) : BitVec 16 := BitVec.ofFnLE f

/-- CHSUM bit of a channel: an indication that is set and enabled (10 R163). -/
def Channel.summaryBit (ch : Channel) (rxReady txSpace : Bool) : Bool :=
  decide (cevent ch.latches rxReady txSpace &&& ch.config.enables ≠ 0)

/-- INT# is asserted while an enabled position of DEVPEND is set or a bit of CHSUM is set (10 R164). -/
def EventUnit.lineNow (e : EventUnit) : Bool :=
  decide (e.devpend &&& e.enables ≠ 0) || decide (e.summary ≠ 0)

/-- The owners hand their level values anew and the Event Unit evaluates CHSUM and INT# (10 R158, R162 to R164).
Every command ends with it, so that these follow at once (log entry 10), TxSpace at a taken Region Table write too (log
entry 28). -/
def State.evaluate (s : State) : State :=
  let rx := perChannel (fun c => (s.chan c).rxReadyNow)
  let tx := perChannel (fun c => (s.chan c).txSpaceNow)
  let sum := perChannel (fun c => (s.chan c).summaryBit (s.chan c).rxReadyNow (s.chan c).txSpaceNow)
  let e := { s.evu with cqReady := s.cqReadyNow, rxReady := rx, txSpace := tx, summary := sum }
  { s with evu := { e with intAsserted := e.lineNow } }

/-- The next state of a command that was carried out. -/
def finish (s : State) : Out := .next s.evaluate

/-- A device command that was carried out or refused: its result is stored (11 R169, R174). -/
def finishDevice (s : State) (r : CmdResult) : Out := finish (s.setDeviceResult r)

/-- A channel command that was carried out or refused: its result is stored (11 R169, R174). -/
def finishChannel (s : State) (r : CmdResult) : Out := finish (s.setChannelResult r)

end Sys2Proof.Machine
end

