-- ==== Sys2Proof/Machine/Credit.lean ====
section
/-! DEFINITION. Credit flow (spec 06): the receiver view, grants, the sender view, zeroing, starvation, and the
level-due marks a grant sets (04 R63). -/

namespace Sys2Proof.Machine

/-! ### The receiver view -/

/-- Ow, the outstanding word credits (06 R95). -/
def Credits.outstandingWords (k : Credits) : Nat := (k.wordGranted - k.wordCounted).toNat

/-- Om, the outstanding message credits (06 R95). -/
def Credits.outstandingMsgs (k : Credits) : Nat := (k.msgGranted - k.msgCounted).toNat

/-- Setting a mark; a mark set again during its slot is no longer the one on the line (04 R63, R67). -/
def Mark.raised : Mark := { set := true, chosen := false }

/-- Both marks of the channel set (04 R63). -/
def Channel.setMarks (ch : Channel) : Channel := { ch with wordMark := Mark.raised, msgMark := Mark.raised }

/-- Both marks of the channel cleared (04 R64). -/
def Channel.clearMarks (ch : Channel) : Channel := { ch with wordMark := Mark.clear, msgMark := Mark.clear }

/-- The word grant gw (06 R96). -/
def Channel.wordGrant (ch : Channel) : Nat :=
  min (ch.rxRegion.capacity - ch.rx.held - ch.credits.outstandingWords) (31 - ch.credits.outstandingWords)

/-- The message grant gm (06 R96). -/
def Channel.msgGrant (ch : Channel) : Nat :=
  Config.maxRecords - ch.rx.records.length - ch.credits.outstandingMsgs

/-- A grant is evaluated (06 R96, R97): only for a credit channel in a connected state; a positive amount advances
its total and sets its mark in the same step. -/
def Channel.grant (ch : Channel) : Channel :=
  if ch.creditConnected then
    { ch with
      credits := { ch.credits with
        wordGranted := ch.credits.wordGranted + BitVec.ofNat 5 ch.wordGrant
        msgGranted := ch.credits.msgGranted + BitVec.ofNat 5 ch.msgGrant }
      wordMark := if 0 < ch.wordGrant then Mark.raised else ch.wordMark
      msgMark := if 0 < ch.msgGrant then Mark.raised else ch.msgMark }
  else ch

/-- Counts one arriving word, and one message for a First or Only (06 R98 step 2). -/
def Channel.countArrival (ch : Channel) (starts : Bool) : Channel :=
  { ch with credits := { ch.credits with
      wordCounted := ch.credits.wordCounted + 1
      msgCounted := if starts then ch.credits.msgCounted + 1 else ch.credits.msgCounted } }

/-! ### The sender view -/

/-- The available word credit (06 R102). -/
def Credits.availableWords (k : Credits) : Nat := (k.wordHeard - k.wordUsed).toNat

/-- The available message credit: the difference mod 32, and 16 when it is 17 to 31 (06 R102). -/
def Credits.availableMsgs (k : Credits) : Nat := min (k.msgHeard - k.msgUsed).toNat 16

/-- The credit allows a data word, and a First or Only needs a message credit as well (06 R103). -/
def Credits.allows (k : Credits) (starts : Bool) : Bool :=
  decide (1 ≤ k.availableWords) && (!starts || decide (1 ≤ k.availableMsgs))

/-- A reported word is paid for (06 R103). -/
def Channel.spend (ch : Channel) (starts : Bool) : Channel :=
  { ch with credits := { ch.credits with
      wordUsed := ch.credits.wordUsed + 1
      msgUsed := if starts then ch.credits.msgUsed + 1 else ch.credits.msgUsed } }

/-- The channel is starved (06 R107): the head message has a next word, and the available word credit is 0, or the
head is Waiting and the available message credit is 0. -/
def Channel.starved (ch : Channel) : Bool :=
  match ch.tx.messages with
  | [] => false
  | m :: _ =>
    decide (m.sent < m.length) &&
      (ch.credits.availableWords == 0 || (m.sent == 0 && ch.credits.availableMsgs == 0))

/-- The count of a running probe timer is set to 0 (06 R107). -/
def Channel.resetProbe (ch : Channel) : Channel := { ch with probe := ch.probe.map (fun _ => 0) }

/-- The probe count is set to 0 at once by an event that ended starvation (06 R107). -/
def Channel.endStarvation (before after : Channel) : Channel :=
  if before.starved && !after.starved then after.resetProbe else after

/-- An accepted WordLevel sets WordHeard (06 R104). -/
def Channel.hearWordLevel (ch : Channel) (v : BitVec 5) : Channel :=
  ch.endStarvation { ch with credits := { ch.credits with wordHeard := v } }

/-- An accepted MsgLevel sets MsgHeard (06 R104). -/
def Channel.hearMsgLevel (ch : Channel) (v : BitVec 5) : Channel :=
  ch.endStarvation { ch with credits := { ch.credits with msgHeard := v } }

/-! ### Zeroing -/

/-- A zeroing (06 R105): all eight totals 0, the discard state ends, and the count of a running probe timer is set
to 0 (R107). -/
def Channel.zeroCredits (ch : Channel) : Channel :=
  { ch with credits := Credits.zero, rx := { ch.rx with discard := false } }.resetProbe

end Sys2Proof.Machine
end

