-- ==== Sys2Proof/Machine/ControlSlot.lean ====
section
/-! DEFINITION. The Control Output Queue, the level-due marks and the control-slot arbiter (spec 04). -/

namespace Sys2Proof.Machine

/-! ### The queue (04 R59 to R62) -/

/-- The entry belongs to channel `c` and class `k`. -/
def CtlEntry.isFor (e : CtlEntry) (c : Chan) (k : CtlClass) : Bool := decide (e.chan = c) && decide (e.cls = k)

/-- The entry is no longer the one on the line. -/
def CtlEntry.unchosen (e : CtlEntry) : CtlEntry := { e with chosen := false }

/-- An entry that takes the opcode and destination of `new` in place (04 R60, R61). One that did not change is
still the entry that the arbiter chose; one that changed is not (04 R67). -/
def CtlEntry.takeOver (old new : CtlEntry) : CtlEntry :=
  if old.opcode = new.opcode ∧ old.destStation = new.destStation ∧ old.destChannel = new.destChannel then old
  else new.unchosen

/-- Queues an entry: it takes the place of the entry of its channel and class, or joins the tail (04 R60, R61). -/
def enqueue (q : List CtlEntry) (new : CtlEntry) : List CtlEntry :=
  if q.any (fun e => e.isFor new.chan new.cls) then
    q.map (fun e => if e.isFor new.chan new.cls then e.takeOver new else e)
  else q ++ [new]

/-- The state with an entry queued. -/
def State.enqueueEntry (s : State) (new : CtlEntry) : State :=
  { s with lnk := { s.lnk with queue := enqueue s.lnk.queue new } }

/-- Queues a request for channel `c`, to its peer as configured now (04 R60). -/
def State.queueRequest (s : State) (c : Chan) (op : Opcode) : State :=
  let g := (s.chan c).config
  s.enqueueEntry { chan := c, cls := .request, opcode := op, destStation := g.peerStation,
                   destChannel := g.peerChannel, chosen := false }

/-- Queues a response for channel `c`. A reply to an unmatched word is given only when the channel holds no
response entry (04 R61). -/
def State.queueResponse (s : State) (c : Chan) (op : Opcode) (station channel : Address) (matched : Bool) : State :=
  if !matched && s.lnk.queue.any (fun e => e.isFor c .response) then s
  else
    s.enqueueEntry { chan := c, cls := .response, opcode := op, destStation := station, destChannel := channel,
                     chosen := false }

/-- A reply to the channel's own peer (05 section 5.4). -/
def State.replyPeer (s : State) (c : Chan) (op : Opcode) : State :=
  s.queueResponse c op (s.chan c).config.peerStation (s.chan c).config.peerChannel true

/-- The entry is channel `c`'s request holding Probe. -/
def CtlEntry.isProbeOf (e : CtlEntry) (c : Chan) : Bool := e.isFor c .request && e.opcode == .probe

/-- The entries with `probe` placed directly behind channel `c`'s response entry. -/
def placeBehindReply (c : Chan) (probe : CtlEntry) : List CtlEntry → List CtlEntry
  | [] => [probe]
  | e :: rest => if e.isFor c .response then e :: probe :: rest else e :: placeBehindReply c probe rest

/-- The queue with channel `c`'s Probe sent after its response: a Probe that stands before the response entry moves
directly behind it (05 R82; log entry 30). -/
def deferProbe (c : Chan) : List CtlEntry → List CtlEntry
  | [] => []
  | e :: rest =>
    if e.isProbeOf c && rest.any (fun x => x.isFor c .response) then placeBehindReply c e rest
    else e :: deferProbe c rest

/-- The state with channel `c`'s Probe sent after its response (05 R82; log entry 30). -/
def State.deferProbe (s : State) (c : Chan) : State :=
  { s with lnk := { s.lnk with queue := Machine.deferProbe c s.lnk.queue } }

/-- Withdraws the request entry of channel `c` when it holds one of the given opcodes (04 R62). -/
def State.withdraw (s : State) (c : Chan) (holds : Opcode → Bool) : State :=
  { s with lnk := { s.lnk with queue := s.lnk.queue.filter (fun e => !(e.isFor c .request && holds e.opcode)) } }

/-! ### The marks (04 R63, R66) -/

/-- The mark at position 2c (word) or 2c + 1 (message). -/
def State.markAt (s : State) (p : Fin 32) : Mark :=
  let ch := s.chan (Fin.ofNat 16 (p.val / 2))
  if p.val % 2 = 0 then ch.wordMark else ch.msgMark

/-- The state with the mark at a position changed. -/
def State.modMark (s : State) (p : Fin 32) (f : Mark → Mark) : State :=
  s.modChan (Fin.ofNat 16 (p.val / 2)) (fun ch =>
    if p.val % 2 = 0 then { ch with wordMark := f ch.wordMark } else { ch with msgMark := f ch.msgMark })

/-- The first set mark, searched in rising order from the position after the last one chosen and on from 31 to 0
(04 R66). -/
def State.nextMark (s : State) : Option (Fin 32) :=
  ((List.finRange 32).map (fun i => s.lnk.lastPosition + 1 + i)).find? (fun p => (s.markAt p).set)

/-- Both marks of every credit channel in a connected state are set (04 R65). -/
def State.refreshMarks (s : State) : State :=
  s.mapChans (fun ch => if ch.creditConnected then ch.setMarks else ch)

/-! ### The arbiter (04 R53, R66, R67) -/

/-- The word of a queue entry (04 R53). -/
def CtlEntry.payload (e : CtlEntry) : Word :=
  controlPayload e.destStation e.destChannel e.opcode (BitVec.ofNat 5 e.chan.val)

/-- The word of a level-due mark, with the level held now (04 R53). -/
def State.levelPayload (s : State) (p : Fin 32) : Word :=
  let ch := s.chan (Fin.ofNat 16 (p.val / 2))
  if p.val % 2 = 0 then
    controlPayload ch.config.peerStation ch.config.peerChannel .wordLevel ch.credits.wordGranted
  else controlPayload ch.config.peerStation ch.config.peerChannel .msgLevel ch.credits.msgGranted

/-- The arbiter's answer at the offer of the TxControl slot, and the state after it: the queue head, or the next
level-due mark, or nothing (04 R66). The chosen entry or mark is noted for the report (log entry 18). -/
def State.arbitrate (s : State) : Option Word × State :=
  match s.lnk.queue with
  | e :: rest => (some e.payload, { s with lnk := { s.lnk with queue := { e with chosen := true } :: rest } })
  | [] =>
    match s.nextMark with
    | some p =>
      (some (s.levelPayload p),
        { s with lnk := { s.lnk with lastPosition := p } }.modMark p (fun m => { m with chosen := true }))
    | none => (none, s)

/-- The mark is no longer the one on the line. -/
def Mark.unchosen (m : Mark) : Mark := { m with chosen := false }

/-- A mark at the end of the slot: the chosen one is cleared when its word went clean (04 R67). -/
def Mark.settle (m : Mark) (clash : Bool) : Mark :=
  if m.chosen then { set := clash, chosen := false } else m

/-- The queue at the end of the slot: the chosen entry leaves when its word went clean, and stays after a clash
(04 R67). -/
def settleQueue (q : List CtlEntry) (clash : Bool) : List CtlEntry :=
  if clash then q.map CtlEntry.unchosen else q.filter (fun e => !e.chosen)

/-- The Link Controller's part of the report of a control word (04 R67). -/
def State.settleControl (s : State) (clash : Bool) : State :=
  { s with lnk := { s.lnk with queue := settleQueue s.lnk.queue clash } }.mapChans
    (fun ch => { ch with wordMark := ch.wordMark.settle clash, msgMark := ch.msgMark.settle clash })

end Sys2Proof.Machine
end

