-- ==== Sys2Proof/Machine/Transmit.lean ====
section
/-! DEFINITION. The Transmit Engine (spec 07) and the entries it hands to the Completion Queue (spec 09). -/

namespace Sys2Proof.Machine

/-! ### Host side: CDATA writes, POST, ABANDON -/

/-- The word is taken (07 R111 for a credit channel, R119 for a stream channel). -/
def Channel.writeTaken (ch : Channel) : Bool :=
  match ch.config.mode with
  | .credit =>
    (ch.link.state == .listen || ch.link.state == .opening || ch.link.state == .opened) &&
      !ch.tx.spoiled && decide (ch.tx.composing < ch.config.maxLength) &&
      decide (ch.tx.held < ch.txRegion.capacity)
  | .stream => ch.link.state == .opened && decide (ch.tx.held < ch.txRegion.capacity)

/-- A taken word joins the composing message (R111) or the word FIFO (R119). -/
def Channel.appendWord (ch : Channel) : Channel :=
  match ch.config.mode with
  | .credit => { ch with tx := { ch.tx with composing := ch.tx.composing + 1 } }
  | .stream => { ch with tx := { ch.tx with fifo := ch.tx.fifo ++ [false], openMessage := true } }

/-- A refused write raises WriteRefused and spoils an existing composing message (R111, R119, R127). -/
def Channel.refuseWrite (ch : Channel) : Channel :=
  let spoils := ch.config.mode == .credit && decide (0 < ch.tx.composing)
  { ch with tx := { ch.tx with spoiled := ch.tx.spoiled || spoils } }.raise .writeRefused

/-- The composing message is discarded with its Spoiled mark (05 R71, 07 R113). -/
def TxSide.discardComposing (t : TxSide) : TxSide := { t with composing := 0, spoiled := false }

/-- The composing message becomes the newest message of the list (07 R112). -/
def TxSide.postComposing (t : TxSide) : TxSide :=
  { t with
    messages := t.messages ++ [{ tag := t.tag, length := t.composing, sent := 0, clashed := false,
                                 restarted := false }]
    composing := 0 }

/-- The unsent words: the FIFO words other than the word on the line (07 R118). -/
def TxSide.unsent (t : TxSide) : List Bool := if t.onLine then t.fifo.tail else t.fifo

/-- How many unsent words belong to the open message: those after the last end-marked word (07 R118). -/
def TxSide.openUnsent (t : TxSide) : Nat := (t.unsent.reverse.takeWhile (fun mark => !mark)).length

/-- The open message has started on the wire (07 R118). -/
def TxSide.startedOnWire (t : TxSide) : Bool := t.inProgress && !t.pendingEnd && !t.unsent.any (fun mark => mark)

/-- Ends the open message of a stream channel (07 R120, the rows that give Done). A cut message that is still the open
one, so that no unsent word carries an end mark, loses its restart mark: no further word of it has gone out (07 R124;
log entry 16). -/
def TxSide.endOpenMessage (t : TxSide) : TxSide :=
  if 0 < t.openUnsent then
    { t with fifo := t.fifo.dropLast ++ [true], openMessage := false,
             restartMark := t.restartMark && t.unsent.any (fun mark => mark) }
  else if t.startedOnWire then { t with pendingEnd := true, openMessage := false }
  else { t with openMessage := false, restartMark := false }

/-- Discards what remains unsent of the open message of a stream channel (07 R121, the cases that give Done). -/
def TxSide.abandonOpenMessage (t : TxSide) : TxSide :=
  if 0 < t.openUnsent then
    { t with fifo := t.fifo.take (t.fifo.length - t.openUnsent), openMessage := false,
             pendingEnd := t.pendingEnd || t.startedOnWire, restartMark := false }
  else if t.startedOnWire then { t with pendingEnd := true, openMessage := false }
  else { t with openMessage := false, restartMark := false }

/-- A stream channel sends, ends and abandons in OPEN and DRAIN (07 R120 to R122). -/
def Channel.streamSending (ch : Channel) : Bool := ch.link.state == .opened || ch.link.state == .drain

/-! ### Completions and flushes -/

/-- The entry of a message that leaves the list (09 R149, R150). -/
def TxMessage.entry (m : TxMessage) (c : Chan) (status : CqStatus) (frame : Word) : CqEntry :=
  { chan := c, tag := m.tag, status := status, restarted := m.restarted, endFrame := frame }

/-- Entries join the tail of the Completion Queue; the reservations become them (09 R148 to R150). -/
def State.addCompletions (s : State) (es : List CqEntry) : State :=
  { s with cq := { s.cq with entries := s.cq.entries ++ es } }

/-- The sending side after a TX flush (05 R71, 07 R118): every word is freed, and both positions return to the first
word of the region when words were held (03 R42). Tag and, in credit mode, the stream state stay. -/
def Channel.emptyTx (ch : Channel) : Channel :=
  let free := if ch.tx.held = 0 then ch.tx.free else 0
  match ch.config.mode with
  | .credit =>
    { ch with tx := { ch.tx.discardComposing with free := free, messages := [], onLine := false } }.resetProbe
  | .stream =>
    { ch with tx := { ch.tx with free := free, fifo := [], openMessage := false, inProgress := false,
                                 pendingEnd := false, restartMark := false, onLine := false } }

/-- A TX flush with a status (05 R71): in credit mode every message of the list becomes an entry, oldest first. -/
def State.flushTx (s : State) (c : Chan) (status : CqStatus) : State :=
  let ch := s.chan c
  match ch.config.mode with
  | .credit =>
    (s.addCompletions (ch.tx.messages.map (fun m => m.entry c status s.hwi.frame))).modChan c Channel.emptyTx
  | .stream => s.modChan c Channel.emptyTx

/-! ### Slots -/

/-- The kind of word k of a message of `length` words (07 Table 27). -/
def creditKind (length k : Nat) : Kind :=
  if length = 1 then .only else if k = 0 then .first else if k + 1 = length then .last else .middle

/-- The engine's answer at an offer: what goes on the line, where its payload comes from, and the channel after
the offer. -/
structure Answer where
  kind : Kind
  /-- Address of the word in the Buffer Memory, or none for the fill value. -/
  source : Option Nat
  owner : LineOwner
  after : Channel

/-- The answer of a credit channel (07 R114). -/
def Channel.offerCredit (ch : Channel) (c : Chan) : Option Answer :=
  if ch.link.state.connected then
    match ch.tx.messages with
    | [] => none
    | m :: _ =>
      if ch.credits.allows (m.sent == 0) then
        some { kind := creditKind m.length m.sent, source := some (ch.txRegion.wordAt ch.tx.free m.sent),
               owner := .creditData c, after := { ch with tx := { ch.tx with onLine := true } } }
      else none
  else none

/-- The oldest unsent word of a stream channel goes on the line (07 R122). -/
def Channel.offerFifoWord (ch : Channel) (c : Chan) (mark : Bool) : Answer :=
  let source := some (ch.txRegion.wordAt ch.tx.free (if ch.tx.onLine then 1 else 0))
  let tx := { ch.tx with onLine := true, inProgress := !mark }
  if ch.tx.inProgress then
    { kind := if mark then .last else .middle, source := source, owner := .streamWord c, after := { ch with tx := tx } }
  else
    let after := { ch with tx := { tx with restartMark := false } }
    { kind := if mark then .only else .first, source := source, owner := .streamWord c,
      after := if ch.tx.restartMark then after.count .restarts else after }

/-- The answer of a stream channel: the first row of 07 Table 28 that applies. -/
def Channel.offerStream (ch : Channel) (c : Chan) : Option Answer :=
  if ch.streamSending then
    if ch.tx.pendingEnd then
      some { kind := .last, source := none, owner := .streamEnd c,
             after := { ch with tx := { ch.tx with pendingEnd := false, inProgress := false } } }
    else
      match ch.tx.unsent with
      | mark :: _ => some (ch.offerFifoWord c mark)
      | [] =>
        if ch.tx.inProgress then some { kind := .fill, source := none, owner := .streamFill c, after := ch }
        else none
  else none

/-- The Transmit Engine's answer for channel `c` (07 R114, R122). -/
def Channel.offer (ch : Channel) (c : Chan) : Option Answer :=
  match ch.config.mode with
  | .credit => ch.offerCredit c
  | .stream => ch.offerStream c

/-- The channel after its head message completed (07 R116 steps 2 and 3): the message's words are freed and its
record leaves the list. -/
def Channel.dropHead (ch : Channel) (m : TxMessage) (rest : List TxMessage) : Channel :=
  { ch with tx := { ch.tx with messages := rest, free := (ch.tx.free + m.length) % ch.txRegion.capacity } }.resetProbe

/-- The report of a credit channel's word (07 R115, R116): the word is paid for, the head advances, a clash marks
it, and a message whose last word was sent becomes an entry. A report that finds the word gone, because a
flush emptied the list, changes nothing. -/
def State.reportCredit (s : State) (c : Chan) (clash : Bool) : State :=
  let ch := s.chan c
  match ch.tx.onLine, ch.tx.messages with
  | true, m :: rest =>
    let m' := { m with sent := m.sent + 1, clashed := m.clashed || clash }
    let paid := ch.spend (m.sent == 0)
    let settled := { paid with tx := { ch.tx with messages := m' :: rest, onLine := false } }
    let started := if m.sent = 0 then settled.resetProbe else settled
    if m'.sent = m'.length then
      (s.addCompletions [m'.entry c (if m'.clashed then .clashed else .sent) s.hwi.frame]).setChan c
        (started.dropHead m' rest)
    else s.setChan c started
  | _, _ => s.setChan c { ch with tx := { ch.tx with onLine := false } }

/-- The report of a FIFO word (07 R123): the word on the line is freed. A report that finds none changes nothing. -/
def Channel.reportStreamWord (ch : Channel) : Channel :=
  if ch.tx.onLine then
    { ch with tx := { ch.tx with fifo := ch.tx.fifo.tail, free := (ch.tx.free + 1) % ch.txRegion.capacity,
                                 onLine := false } }
  else ch

/-! ### Highway loss -/

/-- The cut of a credit channel (07 R117): a head that has started begins again from its First word. -/
def TxSide.cutCredit (t : TxSide) : TxSide :=
  match t.messages with
  | [] => { t with onLine := false }
  | m :: rest =>
    if 0 < m.sent ∨ t.onLine then
      { t with messages := { m with sent := 0, clashed := false, restarted := true } :: rest, onLine := false }
    else t

/-- The loss on a stream channel (07 R124): the word on the line is freed, and a message in progress ends or gets
its restart mark. -/
def Channel.cutStream (ch : Channel) : Channel :=
  let ch1 := ch.reportStreamWord
  if ch1.tx.inProgress then
    { ch1 with tx := { ch1.tx with inProgress := false, pendingEnd := false,
                                   restartMark := ch1.tx.restartMark || !ch1.tx.pendingEnd } }
  else ch1

/-- The Transmit Engine at a highway loss (07 R117, R124). -/
def Channel.cutTx (ch : Channel) : Channel :=
  match ch.config.mode with
  | .credit => { ch with tx := ch.tx.cutCredit }
  | .stream => if ch.streamSending then ch.cutStream else ch

end Sys2Proof.Machine
end

