-- ==== Sys2Proof/Machine/Receive.lean ====
section
/-! DEFINITION. The Receive Engine (spec 08) with the arriving words of credit flow (spec 06). -/

namespace Sys2Proof.Machine

/-! ### Records -/

/-- The flags hold at least one. -/
def RxFlags.any (f : RxFlags) : Bool := f.broken || f.damaged || f.truncated || f.overrun || f.aborted

/-- The newest record changed by `f`. -/
def updateNewest (f : RxRecord → RxRecord) : List RxRecord → List RxRecord
  | [] => []
  | [r] => [f r]
  | r :: q :: rest => r :: updateNewest f (q :: rest)

/-- The open record: the newest record, when it is incomplete (08 R128). -/
def RxSide.openRecord (x : RxSide) : Option RxRecord :=
  match x.records.getLast? with
  | some r => if r.complete then none else some r
  | none => none

/-- The channel with its newest record changed. -/
def Channel.modNewest (ch : Channel) (f : RxRecord → RxRecord) : Channel :=
  { ch with rx := { ch.rx with records := updateNewest f ch.rx.records } }

/-- A closed record takes no further word; RxTrouble is raised when it closes with a flag set (08 R129). `mark`
sets the flag of the way of closing, `last` is the last frame it stamps, if any. -/
def Channel.closeOpen (ch : Channel) (mark : RxFlags → RxFlags) (last : Option Word) : Channel :=
  match ch.rx.openRecord with
  | none => ch
  | some r =>
    let flags := mark r.flags
    let closed := ch.modNewest (fun r => { r with complete := true, flags := flags, lastFrame := last })
    if flags.any then closed.raise .rxTrouble else closed

/-- Closing with the Broken flag, last frame invalid. -/
def Channel.closeBroken (ch : Channel) : Channel := ch.closeOpen (fun f => { f with broken := true }) none

/-- An RX abort (05 R72). -/
def Channel.rxAbort (ch : Channel) : Channel := ch.closeOpen (fun f => { f with aborted := true }) none

/-- The open record is marked Damaged (08 R131, 06 R99). -/
def Channel.damageOpen (ch : Channel) : Channel :=
  match ch.rx.openRecord with
  | none => ch
  | some _ => ch.modNewest (fun r => { r with flags := { r.flags with damaged := true } })

/-! ### Assembly (08 section 8.3): each gives the channel and whether the word is stored at the store position -/

/-- Stores a word in the newest record when the region has room (08 R136). A stream channel without room marks the
record Overrun and counts the word; in credit mode a full region is not reached (log entry 23). -/
def Channel.storeWord (ch : Channel) : Channel × Bool :=
  if ch.rx.held < ch.rxRegion.capacity then
    (ch.modNewest (fun r => { r with length := r.length + 1 }), true)
  else
    match ch.config.mode with
    | .credit => (ch, false)
    | .stream =>
      ((ch.modNewest (fun r => { r with flags := { r.flags with overrun := true } })).count .rxWordsLost, false)

/-- A new record joins the tail (08 R132 step 3). -/
def Channel.pushRecord (ch : Channel) (frame : Word) : Channel :=
  { ch with rx := { ch.rx with records := ch.rx.records ++
      [{ length := 0, complete := false, flags := RxFlags.clear, firstFrame := frame, lastFrame := none,
         readPos := 0 }] } }

/-- A stream message is lost (08 R137); a First enters the discard state. -/
def Channel.loseMessage (ch : Channel) (isFirst : Bool) : Channel :=
  let counted := (ch.count .messagesLost).raise .rxTrouble
  { counted with rx := { counted.rx with discard := counted.rx.discard || isFirst } }

/-- A First or an Only word (08 R132, R133). -/
def Channel.assembleStart (ch : Channel) (frame : Word) (isOnly : Bool) : Channel × Bool :=
  let ch1 := ch.closeBroken
  if ch1.config.mode = .stream ∧ Config.maxRecords ≤ ch1.rx.records.length then (ch1.loseMessage (!isOnly), false)
  else
    let stored := (ch1.pushRecord frame).storeWord
    if isOnly then (stored.1.closeOpen (fun f => f) (some frame), stored.2) else stored

/-- A Middle or a Last word (08 R134, R135). -/
def Channel.assembleRest (ch : Channel) (frame : Word) (isLast : Bool) : Channel × Bool :=
  match ch.rx.openRecord with
  | none => ((ch.count .orphans).raise .rxTrouble, false)
  | some r =>
    let stored :=
      if ch.config.maxLength ≤ r.length then
        (ch.modNewest (fun r => { r with flags := { r.flags with truncated := true } }), false)
      else ch.storeWord
    if isLast then (stored.1.closeOpen (fun f => f) (some frame), stored.2) else stored

/-- A data word that reaches record assembly. -/
def Channel.assemble (ch : Channel) (frame : Word) (k : Kind) : Channel × Bool :=
  match k with
  | .first => ch.assembleStart frame false
  | .only => ch.assembleStart frame true
  | .middle => ch.assembleRest frame false
  | .last => ch.assembleRest frame true
  | .control => (ch, false)
  | .header => (ch, false)
  | .fill => (ch, false)
  | .idle => (ch, false)

/-- The discard state set or ended. -/
def Channel.setDiscard (ch : Channel) (d : Bool) : Channel := { ch with rx := { ch.rx with discard := d } }

/-! ### Credit channels (06 R98 to R101) -/

/-- The violation test (06 R98 step 1). -/
def Channel.violates (ch : Channel) (k : Kind) : Bool :=
  ch.credits.outstandingWords == 0 || (k.starts && ch.credits.outstandingMsgs == 0)

/-- A credit violation (06 R99): no total changes, the open record is treated by the kind, and the discard state
follows Table R99 and the sentence after it. -/
def Channel.violation (ch : Channel) (frame : Word) (k : Kind) : Channel :=
  let counted := (ch.count .creditViolations).raise .rxTrouble
  match k with
  | .first => counted.closeBroken.setDiscard true
  | .only => counted.closeBroken.setDiscard false
  | .last => (counted.damageOpen.closeOpen (fun f => f) (some frame)).setDiscard false
  | .middle => counted.damageOpen
  | .control => counted
  | .header => counted
  | .fill => counted
  | .idle => counted

/-- A data word with a good check for a credit channel in a connected state (06 R98, R100). -/
def Channel.creditWord (ch : Channel) (frame : Word) (k : Kind) : Channel × Bool :=
  if ch.violates k then (ch.violation frame k, false)
  else
    let counted := ch.countArrival k.starts
    if counted.rx.discard && !k.starts then
      (Channel.grant (if k = .last then counted.setDiscard false else counted), false)
    else
      let r := (counted.setDiscard false).assemble frame k
      (r.1.grant, r.2)

/-- A check error for a credit channel in a connected state (06 R101, 08 R131). -/
def Channel.creditCheckError (ch : Channel) : Channel :=
  let counted := if ch.credits.outstandingWords = 0 then ch else ch.countArrival false
  counted.damageOpen.grant

/-! ### Stream channels (08 R131 to R137) -/

/-- A data word for a stream channel in OPEN or DRAIN (08 R136 last case, R137). -/
def Channel.streamWord (ch : Channel) (frame : Word) (k : Kind) : Channel × Bool :=
  if ch.rxRegion.size = 0 then (ch.count .rxWordsLost, false)
  else if ch.rx.discard && !k.starts then ((if k = .last then ch.setDiscard false else ch), false)
  else (ch.setDiscard false).assemble frame k

/-! ### The word handed from an RxData slot -/

/-- What a data word does to a channel in a receiving state. -/
def Channel.dataWord (ch : Channel) (frame : Word) (k : Kind) : Channel × Bool :=
  match ch.config.mode with
  | .credit => ch.creditWord frame k
  | .stream => ch.streamWord frame k

/-- What a check error does to a channel in a receiving state (08 R131). -/
def Channel.rxCheckError (ch : Channel) : Channel :=
  match ch.config.mode with
  | .credit => ch.creditCheckError
  | .stream => ch.damageOpen

/-- A data word of a channel in a receiving state, with its store in the Buffer Memory. -/
def State.takeData (s : State) (c : Chan) (k : Kind) (payload : Word) : State :=
  let ch := s.chan c
  let r := ch.dataWord s.hwi.frame k
  let s1 := s.setChan c r.1
  if r.2 then { s1 with memory := Memory.write s1.memory ch.rxStoreAddr payload } else s1

/-- The word handed to the Receive Engine for channel `c` (08 R130, R131 and what follows). -/
def State.receiveData (s : State) (c : Chan) (w : Received) : State :=
  match w with
  | .checkError => if (s.chan c).receiving then s.modChan c Channel.rxCheckError else s
  | .word .idle _ => s
  | .word .fill _ => s
  | .word .header _ => s
  | .word .control _ => s.countHw .kindMismatches
  | .word .first p => if (s.chan c).receiving then s.takeData c .first p else s.countHw .strays
  | .word .middle p => if (s.chan c).receiving then s.takeData c .middle p else s.countHw .strays
  | .word .last p => if (s.chan c).receiving then s.takeData c .last p else s.countHw .strays
  | .word .only p => if (s.chan c).receiving then s.takeData c .only p else s.countHw .strays

/-! ### Host side -/

/-- The Receive Engine at a highway loss (08 R138). -/
def Channel.rxLoss (ch : Channel) : Channel := ch.closeBroken.setDiscard false

/-- RELEASE of a complete head (08 R141): its words are freed, its record leaves the list, and a grant is
evaluated. -/
def Channel.releaseHead (ch : Channel) (r : RxRecord) (rest : List RxRecord) : Channel :=
  Channel.grant
    { ch with rx := { ch.rx with records := rest, free := (ch.rx.free + r.length) % ch.rxRegion.capacity } }

/-- FLUSH empties the receiving side (05 R79 step 1): both positions return to the region's first word. -/
def Channel.emptyRx (ch : Channel) : Channel := { ch with rx := { ch.rx with free := 0, records := [] } }

end Sys2Proof.Machine
end

