-- ==== Sys2Proof/Machine/Link.lean ====
section
/-! DEFINITION. The Link Controller's state machine (spec 05): transitions and what they order, region
validation, received control words, drain completion and the timers. -/

namespace Sys2Proof.Machine

/-! ### The link record -/

/-- A change of link state raises StateChange; an event that leaves the state raises none (03 R47). -/
def Channel.moveTo (ch : Channel) (st : LinkState) : Channel :=
  if ch.link.state = st then ch else { ch with link := { ch.link with state := st } }.raise .stateChange

/-- Entry into CLOSED or FAULT that names a cause (03 R48). -/
def Channel.moveToWith (ch : Channel) (st : LinkState) (cause : Cause) : Channel :=
  let moved := ch.moveTo st
  { moved with link := { moved.link with cause := cause } }

/-- The answer timer is stopped (05 R91). -/
def Channel.stopAnswer (ch : Channel) : Channel := { ch with link := { ch.link with answerTimer := none } }

/-- Both timers are stopped (05 R73 step 5). -/
def Channel.stopTimers (ch : Channel) : Channel := { ch.stopAnswer with probe := none }

/-- The answer timer is loaded from TIMING (05 R91). -/
def Channel.loadAnswer (ch : Channel) (l : LinkControl) : Channel :=
  { ch with link := { ch.link with answerTimer := some (4 * l.answerTimeout), retriesLeft := l.retryCount } }

/-! ### Actions of transitions (05 section 5.2) -/

/-- Steps 2 to 5 of the clear-down (05 R73) on the channel: RX abort, zeroing for a credit channel, marks cleared,
timers stopped. The discard state ends in either mode (06 R105, 08 R137). -/
def Channel.clearDown (ch : Channel) : Channel :=
  let aborted := ch.rxAbort
  let zeroed :=
    match aborted.config.mode with
    | .credit => aborted.zeroCredits
    | .stream => aborted.setDiscard false
  zeroed.clearMarks.stopTimers

/-- A move from a connected state to CLOSED with its clear-down (05 R73). -/
def State.closeConnected (s : State) (c : Chan) (cause : Cause) : State :=
  let flushed := s.flushTx c (if cause = .peerReset then .peerReset else .flushed)
  let cleared := flushed.modChan c (fun ch => ch.clearDown.moveToWith .closed cause)
  cleared.withdraw c (fun op => op == .probe || op == .close)

/-- The zero state and the grant of an entry into OPEN or a peer restart (05 R74, R82). -/
def Channel.newEpoch (ch : Channel) : Channel := { ch.zeroCredits with probe := some 0 }

/-- Entry into OPEN (05 R74): the answer timer stops and the request entry is withdrawn; a credit channel zeroes
its totals, starts its probe timer, sets both marks and grants. -/
def State.enterOpen (s : State) (c : Chan) : State :=
  (s.withdraw c (fun _ => true)).modChan c (fun ch =>
    let moved := ch.stopAnswer.moveTo .opened
    match moved.config.mode with
    | .credit => moved.newEpoch.setMarks.grant
    | .stream => moved)

/-- The open attempt failed: FAULT with its cause, timers stopped, the Open request withdrawn and the sending side
flushed (05 R73, R85, R93). -/
def State.enterFault (s : State) (c : Chan) (cause : Cause) : State :=
  ((s.flushTx c .flushed).modChan c (fun ch => ch.stopTimers.moveToWith .fault cause)).withdraw c
    (fun op => op == .open_)

/-- The channel leaves LISTEN or OPENING for CLOSED by a host command (05 R77, R78). -/
def State.closeUnconnected (s : State) (c : Chan) (cause : Cause) : State :=
  (s.flushTx c .flushed).modChan c (fun ch => ch.stopTimers.moveToWith .closed cause)

/-- A peer restart (05 R82), in its order. A queued Probe is sent after the OpenAck, as R82 says; R59 and R61 alone would
send it before, and that R82 is followed here is the model's choice (log entry 30). -/
def State.peerRestart (s : State) (c : Chan) : State :=
  let cleared := (s.flushTx c .peerReset).modChan c (fun ch => ch.rxAbort.zeroCredits.clearMarks)
  ((cleared.replyPeer c .openAck).deferProbe c).modChan c (fun ch => { ch.grant with probe := some 0 })

/-- The composing message is discarded. -/
def Channel.dropComposing (ch : Channel) : Channel := { ch with tx := ch.tx.discardComposing }

/-! ### Region validation (03 R46) -/

/-- Test 1: regions present. -/
def Channel.regionsPresent (ch : Channel) : Bool :=
  match ch.config.mode with
  | .credit => ch.txRegion.size != 0 && ch.rxRegion.size != 0
  | .stream => ch.txRegion.size != 0 || ch.rxRegion.size != 0

/-- A region overlaps a region of another channel that is live (test 4) or that holds words there (test 5). -/
def Region.meets (r : Region) (other : Channel) : Bool :=
  if other.link.state = .closed then
    (r.overlaps other.txRegion && decide (0 < other.tx.held)) ||
      (r.overlaps other.rxRegion && decide (0 < other.rx.held))
  else r.overlaps other.txRegion || r.overlaps other.rxRegion

/-- Validation of the regions of channel `c` (03 R46, tests 1 to 5). -/
def State.regionsValid (s : State) (c : Chan) : Bool :=
  let ch := s.chan c
  ch.regionsPresent && ch.txRegion.inside && ch.rxRegion.inside && !ch.txRegion.overlaps ch.rxRegion &&
    (List.finRange 16).all (fun d =>
      decide (d = c) || (!ch.txRegion.meets (s.chan d) && !ch.rxRegion.meets (s.chan d)))

/-! ### Drain completion (05 R88 to R90) -/

/-- The stream channel's pending-end Last is on the line, so its report is still to come (07 R123). -/
def State.endOnLine (s : State) (c : Chan) : Bool :=
  match s.hwi.line with
  | some l => decide (l.owner = .streamEnd c)
  | none => false

/-- The drain completion of channel `c` has been reported and not yet taken (05 section 5.5). -/
def State.drainDue (s : State) (c : Chan) : Bool :=
  let ch := s.chan c
  match ch.config.mode with
  | .credit => (ch.link.state == .drain || ch.link.state == .yield) && ch.tx.messages.isEmpty
  | .stream => ch.link.state == .drain && ch.tx.fifo.isEmpty && !ch.tx.inProgress && !s.endOnLine c

/-- The drain completion, by mode and link state. -/
def State.completeDrain (s : State) (c : Chan) : State :=
  let ch := s.chan c
  match ch.config.mode, ch.link.state with
  | .credit, .drain =>
    (s.queueRequest c .close).modChan c (fun ch => (ch.loadAnswer s.lnk).moveTo .closeWait)
  | .credit, .yield => (s.replyPeer c .closeAck).closeConnected c .closed
  | .stream, .drain => s.closeConnected c .closed
  | _, _ => s

/-- Takes the drain completion of channel `c` if it is due. -/
def State.takeDrain (s : State) (c : Chan) : State := if s.drainDue c then s.completeDrain c else s

/-! ### Timers (05 section 5.6, 06 section 6.5, 04 R65) -/

/-- The answer timer of channel `c` has reached 0 and its expiry is not yet taken (05 R91). -/
def Channel.answerDue (ch : Channel) : Bool := ch.link.answerTimer == some 0

/-- The request that is sent again: Open in OPENING, Close in CLOSEWAIT (05 R92). -/
def Channel.retryOpcode (ch : Channel) : Opcode := if ch.link.state = .opening then .open_ else .close

/-- An answer-timer expiry of channel `c` (05 R92, R93), if it is due. -/
def State.takeAnswerExpiry (s : State) (c : Chan) : State :=
  let ch := s.chan c
  if ch.answerDue then
    if ch.link.state = .opening ∨ ch.link.state = .closeWait then
      if 0 < ch.link.retriesLeft then
        (s.queueRequest c ch.retryOpcode).modChan c (fun ch =>
          { ch with link := { ch.link with answerTimer := some (4 * s.lnk.answerTimeout),
                                           retriesLeft := ch.link.retriesLeft - 1 } })
      else if ch.link.state = .opening then s.enterFault c .noAnswer
      else s.closeConnected c .closeTimeout
    else s.modChan c Channel.stopAnswer
  else s

/-- The probe count has reached the probe delay (06 R108). -/
def Channel.probeDue (ch : Channel) (delay : Nat) : Bool :=
  match ch.probe with
  | some n => decide (delay ≤ n)
  | none => false

/-- A probe-timer expiry of channel `c` (06 R108), if it is due: a Probe request is queued and the count returns
to 0. -/
def State.takeProbeExpiry (s : State) (c : Chan) : State :=
  if (s.chan c).probeDue s.lnk.probeDelay then
    (s.queueRequest c .probe).modChan c (fun ch => { ch with probe := some 0 })
  else s

/-- The refresh count has reached 16 × interval (04 R65). -/
def LinkControl.refreshDue (l : LinkControl) : Bool :=
  l.refreshInterval != 0 && decide (16 * l.refreshInterval ≤ l.refreshCount)

/-- A refresh expiry (04 R65), if it is due. -/
def State.takeRefresh (s : State) : State :=
  if s.lnk.refreshDue then { s with lnk := { s.lnk with refreshCount := 0 } }.refreshMarks else s

/-- A channel's timers count one processed frame (05 R91, 06 R107). -/
def Channel.countFrame (ch : Channel) : Channel :=
  { ch with
    link := { ch.link with answerTimer := ch.link.answerTimer.map (· - 1) }
    probe := ch.probe.map (fun n => if ch.starved then n + 1 else 0) }

/-- The refresh timer counts one processed frame; with interval 0 the count stays at 0 (04 R65). -/
def LinkControl.countFrame (l : LinkControl) : LinkControl :=
  { l with refreshCount := if l.refreshInterval = 0 then 0 else l.refreshCount + 1 }

/-! ### Received control words (04 R55 to R58, 05 section 5.4) -/

/-- The word matches channel `ch`: credit mode, the source station is the peer, and for a handshake opcode the
value is the peer channel (04 R56). -/
def Channel.matchesWord (ch : Channel) (source : Address) (op : Opcode) (value : BitVec 5) : Bool :=
  ch.config.mode == .credit && ch.config.peerStation == source &&
    (op.isLevel || value == ch.config.peerChannel.setWidth 5)

/-- A matched Open (05 R80). -/
def State.matchedOpen (s : State) (c : Chan) : State :=
  match (s.chan c).link.state with
  | .listen => (s.replyPeer c .openAck).enterOpen c
  | .opening => (s.replyPeer c .openAck).enterOpen c
  | .opened => s.peerRestart c
  | .drain => (s.replyPeer c .reset).closeConnected c .peerReset
  | .closeWait => (s.replyPeer c .reset).closeConnected c .peerReset
  | .yield => (s.replyPeer c .reset).closeConnected c .peerReset
  | .closed => s.replyPeer c .reset
  | .fault => s.replyPeer c .reset

/-- A matched OpenAck (05 R81). -/
def State.matchedOpenAck (s : State) (c : Chan) : State :=
  match (s.chan c).link.state with
  | .opening => s.enterOpen c
  | .closed => s.replyPeer c .reset
  | .listen => s
  | .opened => s
  | .drain => s
  | .closeWait => s
  | .yield => s
  | .fault => s

/-- A matched Close (05 R83). -/
def State.matchedClose (s : State) (c : Chan) : State :=
  match (s.chan c).link.state with
  | .opened =>
    if (s.chan c).tx.messages.isEmpty then (s.replyPeer c .closeAck).closeConnected c .closed
    else s.modChan c (fun ch => ch.dropComposing.moveTo .yield)
  | .drain => s.modChan c (fun ch => ch.moveTo .yield)
  | .closeWait => s.replyPeer c .closeAck
  | .closed => s.replyPeer c .closeAck
  | .listen => s.replyPeer c .reset
  | .opening => s.replyPeer c .reset
  | .fault => s.replyPeer c .reset
  | .yield => s

/-- A matched CloseAck (05 R84). -/
def State.matchedCloseAck (s : State) (c : Chan) : State :=
  if (s.chan c).link.state = .closeWait then s.closeConnected c .closed else s

/-- A matched Reset (05 R85). -/
def State.matchedReset (s : State) (c : Chan) : State :=
  match (s.chan c).link.state with
  | .opening => s.enterFault c .refused
  | .opened => s.closeConnected c .peerReset
  | .drain => s.closeConnected c .peerReset
  | .closeWait => s.closeConnected c .peerReset
  | .yield => s.closeConnected c .peerReset
  | .closed => s
  | .listen => s
  | .fault => s

/-- A matched Probe, WordLevel or MsgLevel acts in a connected state and is ignored in the others (04 R57,
05 R86). -/
def State.whenConnected (s : State) (c : Chan) (f : Channel → Channel) : State :=
  if (s.chan c).link.state.connected then s.modChan c f else s

/-- Dispatch of a matched word by opcode (04 R57). -/
def State.matchedWord (s : State) (c : Chan) (op : Opcode) (value : BitVec 5) : State :=
  match op with
  | .open_ => s.matchedOpen c
  | .openAck => s.matchedOpenAck c
  | .close => s.matchedClose c
  | .closeAck => s.matchedCloseAck c
  | .reset => s.matchedReset c
  | .probe => s.whenConnected c Channel.setMarks
  | .wordLevel => s.whenConnected c (fun ch => ch.hearWordLevel value)
  | .msgLevel => s.whenConnected c (fun ch => ch.hearMsgLevel value)

/-- An unmatched Open, OpenAck or Close draws a Reset reply (04 R58). -/
def Opcode.drawsReset : Opcode → Bool
  | .open_ | .openAck | .close => true
  | .closeAck | .reset | .probe | .wordLevel | .msgLevel => false

/-- An unmatched word (04 R58). -/
def State.unmatchedWord (s : State) (c : Chan) (source : Address) (op : Opcode) (value : BitVec 5) : State :=
  let counted := s.countHw .unmatchedControl
  if op.drawsReset then counted.queueResponse c .reset source (value.setWidth 4) false else counted

/-- A control word with a good check from station `source` (04 R55, R56): destination, form, then matching. -/
def State.takeControl (s : State) (source : Address) (w : Word) : State :=
  if ctlStation w ≠ s.hwi.station then s
  else if !(ctlOpcode w).isLevel && decide (16 ≤ (ctlValue w).toNat) then s.countHw .malformedControl
  else
    let c := chanOfField (ctlChannel w)
    if (s.chan c).matchesWord source (ctlOpcode w) (ctlValue w) then s.matchedWord c (ctlOpcode w) (ctlValue w)
    else s.unmatchedWord c source (ctlOpcode w) (ctlValue w)

/-- The word handed to the Link Controller from an RxControl slot (04 R54). -/
def State.receiveControl (s : State) (source : Address) (w : Received) : State :=
  match w with
  | .checkError => s
  | .word .idle _ => s
  | .word .header _ => s
  | .word .control p => s.takeControl source p
  | .word .first _ => s.countHw .kindMismatches
  | .word .middle _ => s.countHw .kindMismatches
  | .word .last _ => s.countHw .kindMismatches
  | .word .only _ => s.countHw .kindMismatches
  | .word .fill _ => s.countHw .kindMismatches

end Sys2Proof.Machine
end

