-- ==== Sys2Proof/Machine/MapOps.lean ====
section
/-! DEFINITION. The Slot Map (spec 02): validation, swap, the frame-start test, and the rewriting of the banks at a
new frame length. -/

namespace Sys2Proof.Machine

/-- Validation (02 R28): entries 1 to N − 1 hold no more than one TxControl entry. -/
def bankValid (bank : Vector MapUse 64) (n : Nat) : Bool := decide (txControlCount bank n ≤ 1)

/-- A swap (02 R30): the selector names the other bank, the bank that was active becomes a copy of the new active
bank, and the pending switch is removed. -/
def SlotMap.swap (m : SlotMap) : SlotMap :=
  { m.setBank m.active m.pendingBank with active := m.active.other, target := none }

/-- The frame-start test (02 R29) of the pending switch against the settled frame number that the frame start
handed to the Slot Map. The test is made once. -/
def State.mapTest (s : State) : State :=
  match s.map.dueFrame with
  | none => s
  | some f =>
    match s.map.target with
    | none => { s with map := { s.map with dueFrame := none } }
    | some t =>
      let d := (t - f).toNat
      if d = 0 then
        { s with map := { s.map.swap with dueFrame := none } }.raise .mapSwitched
      else if 32768 ≤ d then
        ({ s with map := { s.map.swap with dueFrame := none } }.raise .mapSwitched).raise .mapLate
      else { s with map := { s.map with dueFrame := none } }

/-- Entry i is a TxControl entry among 1 to n − 1 that is not the lowest-numbered of them (02 R34). -/
def surplusTxControl (bank : Vector MapUse 64) (n : Nat) (i : Slot) : Bool :=
  decide (0 < i.val) && decide (i.val < n) && decide (bank[i] = .txControl) &&
    (List.finRange 64).any (fun j => decide (0 < j.val) && decide (j.val < i.val) && decide (bank[j] = .txControl))

/-- The bank with every surplus TxControl entry rewritten as Unused (02 R34). -/
def rewriteBank (bank : Vector MapUse 64) (n : Nat) : Vector MapUse 64 :=
  Vector.ofFn (fun i => if surplusTxControl bank n i then .unused else bank[i])

/-- What START does to the Slot Map (02 R34): under an N that differs from the checked N the active bank is
examined, and the pending bank if a switch is pending; the checked N becomes the N used. -/
def SlotMap.startWith (m : SlotMap) (n : Nat) : SlotMap :=
  let examined :=
    if n = m.checkedN then m
    else
      let m1 := m.setBank m.active (rewriteBank m.activeBank n)
      if m.target.isSome then m1.setBank m.active.other (rewriteBank m.pendingBank n) else m1
  { examined with checkedN := n }

end Sys2Proof.Machine
end

