-- ==== Sys2Proof/Machine/HighwayOps.lean ====
section
/-! DEFINITION. The Highway Interface (spec 01): frames and slots, the frame start and the steps it makes due, and
highway loss. -/

namespace Sys2Proof.Machine

/-! ### States of the Highway Interface -/

/-- Slots are served: LOCKED or HOLDOVER (01 R4, Table 10). -/
def Highway.running (h : Highway) : Bool := h.sync == .locked || h.sync == .holdover

/-- A Follower that runs frames. -/
def Highway.followerRuns (h : Highway) : Bool := h.role == .follower && h.running

/-- A Master that runs frames. -/
def Highway.masterRuns (h : Highway) : Bool := h.role == .master && h.sync == .locked

/-- The slots of the frame that were begun are over, so that a new frame can begin: the frame start was given and
no word of the part is on the line. -/
def Highway.betweenSlots (h : Highway) : Bool :=
  match h.position with
  | .served _ => h.line.isNone
  | .header => false
  | .none => false

/-- Slot `n` can begin now: slots are served, the frame start was given, no earlier slot is still in progress, and
`n` is a later slot of the frame (01 R4; log entry 7). -/
def State.slotReady (s : State) (n : Slot) : Bool :=
  match s.hwi.position with
  | .served last => s.hwi.running && s.hwi.line.isNone && decide (last < n.val) && decide (n.val < s.slots)
  | .header => false
  | .none => false

/-- Slot `n` is begun. -/
def State.enterSlot (s : State) (n : Slot) : State :=
  { s with hwi := { s.hwi with position := .served n.val } }

/-- Slot `n` is begun and the part drives a word in it (01 R4). -/
def State.drive (s : State) (n : Slot) (bits : SlotBits) (owner : LineOwner) : State :=
  { s with hwi := { s.hwi with position := .served n.val, line := some { bits := bits, owner := owner } } }

/-- The slot in progress ends and its word is reported (01 R5): a clash advances Clashes and raises LineError. -/
def State.endLine (s : State) (clash : Bool) : State :=
  let released := { s with hwi := { s.hwi with line := none } }
  if clash then released.lineFault .clashes else released

/-- A frame begins (01 R7, R8): the frame number advances by one and slot 0 is in progress. -/
def State.beginFrame (s : State) : State :=
  { s with hwi := { s.hwi with frame := s.hwi.frame + 1, position := .header,
                               frameBit := s.hwi.frameBit + 20 * s.slots } }

/-! ### HSYNC pulses (01 R1) -/

/-- HSYNC found asserted at bit clock `k` is a pulse: at the bit clock before, it was found not asserted. -/
def Highway.pulseAt (h : Highway) (k : Nat) : Bool :=
  match h.hsyncBit with
  | some last => decide (last + 1 < k)
  | none => true

/-- HSYNC found asserted at bit clock `k` is still held from the bit clock before, which is no further pulse. -/
def Highway.heldAt (h : Highway) (k : Nat) : Bool :=
  match h.hsyncBit with
  | some last => decide (k = last + 1)
  | none => false

/-- HSYNC was found asserted at bit clock `k`. -/
def State.noteHsync (s : State) (k : Nat) : State := { s with hwi := { s.hwi with hsyncBit := some k } }

/-- The bit clock of bit 0 of the next frame, where the next pulse is expected (01 R13). -/
def Highway.expectedBit (h : Highway) : Nat := h.frameBit + 20 * slotsOfCode h.lengthCode

/-- A Follower's frame begins with the pulse at the expected bit (01 R13, R14). -/
def State.beginFrameOnPulse (s : State) : State := (s.noteHsync s.hwi.expectedBit).beginFrame

/-! ### Slot 0 -/

/-- Slot 0 can end now, for a Follower: a pulse, a miss or a count has begun the frame, or, in LOCKED, the frame begins
with the header-slot command itself, which then stands for the pulse at the expected bit as well (log entry 11). In
HOLDOVER a frame begins with a pulse or not at all (01 R14). -/
def Highway.followerHeaderReady (h : Highway) : Bool :=
  h.followerRuns &&
    (h.position == .header || (h.sync == .locked && h.betweenSlots && h.pulseAt h.expectedBit))

/-- The Follower's frame whose slot 0 ends now: one that has begun, or else one that begins on its pulse with the
header-slot command itself (log entry 11). -/
def State.inFollowerFrame (s : State) : State :=
  if s.hwi.position = .header then s else s.beginFrameOnPulse

/-- The Master's frame whose slot 0 ends now: one that has begun, or else one that begins with the header-slot command
itself (log entry 11). -/
def State.inMasterFrame (s : State) : State := if s.hwi.position = .header then s else s.beginFrame

/-! ### Frame start (01 R9) -/

/-- The frame start: the settled frame number is handed to the Slot Map for the test of the pending switch, and every
frame-counted timer counts one processed frame. With no switch pending there is no test to make (02 R29). The steps
this makes due are commands of their own (log entry 8). -/
def State.frameStart (s : State) : State :=
  { s with
    hwi := { s.hwi with position := .served 0 }
    map := { s.map with dueFrame := if s.map.target.isSome then some s.hwi.frame else none }
    lnk := s.lnk.countFrame }.mapChans Channel.countFrame

/-- The steps that are due and were not sent as commands are taken, in this order: the map test, answer-timer
expiries, probe-timer expiries, the refresh expiry, drain completions; channels in rising order (log entry 8). -/
def State.takeDue (s : State) : State :=
  let tested := s.mapTest
  let answered := (List.finRange 16).foldl State.takeAnswerExpiry tested
  let probed := (List.finRange 16).foldl State.takeProbeExpiry answered
  (List.finRange 16).foldl State.takeDrain probed.takeRefresh

/-- Nothing is due. -/
def State.quiet (s : State) : Bool :=
  s.map.dueFrame.isNone && !s.lnk.refreshDue &&
    (List.finRange 16).all (fun c =>
      !(s.chan c).answerDue && !(s.chan c).probeDue s.lnk.probeDelay && !s.drainDue c)

/-! ### Highway loss (01 R16) -/

/-- The loss on one channel: the Transmit Engine and the Receive Engine act, and the marks stay as after a clash
(01 R16, 04 R67). -/
def Channel.loseHighway (ch : Channel) : Channel :=
  let cut := ch.cutTx.rxLoss
  { cut with wordMark := cut.wordMark.unchosen, msgMark := cut.msgMark.unchosen }

/-- A highway loss with the sync state it leads to and the pulse recorded for acquisition: the slot in progress is
abandoned, and the loss is handed to the engines and the Link Controller (01 R16). -/
def State.loseHighway (s : State) (dest : Sync) (pulse : Option Nat) : State :=
  { s with
    hwi := { s.hwi with sync := dest, position := .none, lastPulse := pulse, candidate := false, line := none }
    lnk := { s.lnk with queue := s.lnk.queue.map CtlEntry.unchosen } }.mapChans
      Channel.loseHighway

end Sys2Proof.Machine
end

