-- ==== Sys2Proof/Machine/Registers.lean ====
section
/-! DEFINITION. What the host reads (11 Tables 32 to 35): each register and table word as a function of the state,
and the lines the part drives. A read of a register other than TDATA and CDATA changes nothing (11 R168), so it is
no command. -/

namespace Sys2Proof.Machine

/-- DSTAT: 1–0 sync state; 2 role; 3 switch pending; 6–4 device result; 13–8 CQ entry count. -/
def State.readDstat (s : State) : Word :=
  (0 : BitVec 2) ++ BitVec.ofNat 6 s.cq.entries.length ++ (0 : BitVec 1) ++ s.host.deviceResult.code ++
    bit s.map.target.isSome ++ s.hwi.role.code ++ s.hwi.sync.code

/-- HCFG: 3–0 station address; 5–4 frame length code; 8 role. -/
def State.readHcfg (s : State) : Word :=
  (0 : BitVec 7) ++ s.hwi.role.code ++ (0 : BitVec 2) ++ s.hwi.lengthCode ++ s.hwi.station

/-- MAPSTAT: 13–0 target mod 16384, 0 when no switch is pending; 14 switch pending; 15 active bank (02 R35). -/
def State.readMapstat (s : State) : Word :=
  s.map.active.code ++ bit s.map.target.isSome ++ (s.map.target.getD 0).setWidth 14

/-- CQ0: 8–0 tag mod 512; 9 Restarted; 11–10 status; 15–12 channel; zeros when empty (09 R153). -/
def State.readCq0 (s : State) : Word :=
  match s.cq.entries with
  | [] => 0
  | e :: _ => chanField e.chan ++ e.status.code ++ bit e.restarted ++ e.tag.setWidth 9

/-- CQ1: end frame; zeros when empty (09 R153). -/
def State.readCq1 (s : State) : Word :=
  match s.cq.entries with
  | [] => 0
  | e :: _ => e.endFrame

/-- CSTAT: 2–0 link state; 6–4 cause; 10–8 channel result (03 R52). -/
def State.readCstat (s : State) : Word :=
  (0 : BitVec 5) ++ s.host.channelResult.code ++ (0 : BitVec 1) ++ s.selectedChan.link.cause.code ++
    (0 : BitVec 1) ++ s.selectedChan.link.state.code

/-- CEVENT of the selected channel (10 R161). -/
def State.readCevent (s : State) : Word :=
  (cevent s.selectedChan.latches (s.evu.rxReady.getLsbD s.host.selected.val)
    (s.evu.txSpace.getLsbD s.host.selected.val)).setWidth 16

/-- TXFREE: 10–0 free TX words; 14–11 TX list count (07 R125). -/
def State.readTxfree (s : State) : Word :=
  (0 : BitVec 1) ++ BitVec.ofNat 4 s.selectedChan.tx.messages.length ++ BitVec.ofNat 11 s.selectedChan.txFree

/-- RXLEN: 8–0 length stored; 9 complete; 14–10 record count; 0 with an empty list (08 R143). -/
def State.readRxlen (s : State) : Word :=
  match s.selectedChan.rx.records with
  | [] => 0
  | r :: rest =>
    (0 : BitVec 1) ++ BitVec.ofNat 5 (rest.length + 1) ++ bit r.complete ++ BitVec.ofNat 9 r.length

/-- RXFLAGS: 0 Broken; 1 Damaged; 2 Truncated; 3 Overrun; 4 Aborted; 5 last frame valid; 14–6 read position. -/
def State.readRxflags (s : State) : Word :=
  match s.selectedChan.rx.records with
  | [] => 0
  | r :: _ =>
    (0 : BitVec 1) ++ BitVec.ofNat 9 r.readPos ++ bit r.lastFrame.isSome ++ bit r.flags.aborted ++
      bit r.flags.overrun ++ bit r.flags.truncated ++ bit r.flags.damaged ++ bit r.flags.broken

/-- RXFRAME0: the head's first frame (08 R143). -/
def State.readRxframe0 (s : State) : Word :=
  match s.selectedChan.rx.records with
  | [] => 0
  | r :: _ => r.firstFrame

/-- RXFRAME1: the head's last frame when valid, else 0 (08 R143). -/
def State.readRxframe1 (s : State) : Word :=
  match s.selectedChan.rx.records with
  | [] => 0
  | r :: _ => r.lastFrame.getD 0

/-- CRSTAT: view 0: 4–0 available word credit, 12–8 available message credit; view 1: 4–0 Ow, 12–8 Om; 15 view
shown (11 R172). A stream channel and a channel in a state without credits read 0 in the fields (06 R109). -/
def State.readCrstat (s : State) : Word :=
  let k := s.selectedChan.credits
  let fields : Nat × Nat :=
    if s.selectedChan.creditConnected then
      if s.host.creditView then (k.outstandingMsgs, k.outstandingWords) else (k.availableMsgs, k.availableWords)
    else (0, 0)
  bit s.host.creditView ++ (0 : BitVec 2) ++ BitVec.ofNat 5 fields.1 ++ (0 : BitVec 3) ++ BitVec.ofNat 5 fields.2

/-- The word at an index of a table of the table window, before any clearing (11 R171, Table 35). -/
def State.tableWord (s : State) (t i : Nat) : Word :=
  match t with
  | 0 => (s.map.pendingBank[Fin.ofNat 64 i]).word
  | 1 => (s.map.activeBank[Fin.ofNat 64 i]).word
  | 2 =>
    let ch := s.chan (chanOfIndex i 2)
    if i % 2 = 0 then ch.txRegion.word else ch.rxRegion.word
  | 3 => (s.chan (chanOfIndex i 6)).config.word (i % 6)
  | 4 => ((s.chan (chanOfIndex i 6)).counters[Fin.ofNat 6 i]).setWidth 16
  | _ => (s.hwi.counters[Fin.ofNat 9 i]).setWidth 16

/-- The value of a register by its word address A5 to A1, the offset of Table 32 divided by two. CDATA and TDATA
show the word a read would return; the effects of those two reads are commands. -/
def State.readRegister (s : State) (address : Nat) : Word :=
  match address with
  | 0 => s.readDstat
  | 1 => s.host.darg
  | 2 => s.readHcfg
  | 3 => s.hwi.divider.setWidth 16
  | 4 => s.hwi.frame
  | 5 => s.readMapstat
  | 6 => s.evu.devpend.setWidth 16
  | 7 => s.evu.enables.setWidth 16
  | 8 => s.evu.summary
  | 9 => BitVec.ofNat 16 (s.lnk.retryCount * 256 + s.lnk.answerTimeout)
  | 10 => BitVec.ofNat 16 (s.lnk.refreshInterval * 256 + s.lnk.probeDelay)
  | 11 => s.readCq0
  | 12 => s.readCq1
  | 13 => BitVec.ofNat 16 s.cq.threshold
  | 14 => BitVec.ofNat 16 (s.host.selected.val + if s.host.creditView then 16 else 0)
  | 15 => s.readCstat
  | 16 =>
    match s.selectedChan.rx.records with
    | r :: _ =>
      if r.readPos < r.length then
        Memory.read s.memory (s.selectedChan.rxRegion.wordAt s.selectedChan.rx.free r.readPos)
      else 0
    | [] => 0
  | 17 => s.selectedChan.tx.tag
  | 18 => s.readCevent
  | 19 => s.readTxfree
  | 20 => s.readRxlen
  | 21 => s.readRxflags
  | 22 => s.readRxframe0
  | 23 => s.readRxframe1
  | 24 => s.readCrstat
  | 25 => BitVec.ofNat 16 (s.host.table * 256 + s.host.index)
  | 26 => s.tableWord s.host.table s.host.index
  | _ => 0

/-- The part drives HCLK and HSYNC: a Master in LOCKED, and nothing while RESET# is asserted (01 R1, R20). -/
def State.drivesClock (s : State) : Bool := !s.resetPin && s.hwi.masterRuns

/-- What the part drives on HSYNC at bit position `bit` of the frame: nothing, or the level, which is asserted for one
bit clock at bit 0 of slot 0 (01 R1). -/
def State.drivenHsync (s : State) (bit : Nat) : Option Bool := if s.drivesClock then some (bit == 0) else none

/-- What REFCLK is divided by for the HCLK that the part drives, if it drives it: HDIV + 1 (01 R1). -/
def State.clockDivision (s : State) : Option Nat := if s.drivesClock then some (s.hwi.divider.toNat + 1) else none

/-- What the part drives on HDAT: the Header of a Master's slot 0, or the word of the slot in progress (01 R4,
R7). -/
def State.drivenWord (s : State) : Option SlotBits :=
  if s.hwi.masterRuns ∧ s.hwi.position = .header then some (slotWord .header s.hwi.frame)
  else s.hwi.line.map (·.bits)

end Sys2Proof.Machine
end

