-- ==== Sys2Proof/Machine/ChannelCommands.lean ====
section
/-! DEFINITION. The meanings of the channel commands and of the CDATA accesses. Each acts on the channel that CHSEL
names (03 R51). -/

namespace Sys2Proof.Machine

/-- A credit channel starts to open (05 R75): OPENING, an Open request queued, the answer timer loaded. -/
def State.startOpening (s : State) (c : Chan) : State :=
  (s.queueRequest c .open_).modChan c (fun ch => (ch.loadAnswer s.lnk).moveTo .opening)

/-- OPEN (05 R75). -/
def execChanOpen (s : State) : Out :=
  whenLive s
    (let c := s.host.selected
    let ch := s.chan c
    match ch.link.state, ch.config.mode with
    | .closed, .credit =>
      if !ch.rx.records.isEmpty || decide (0 < ch.tx.composing) then finishChannel s .wrongState
      else if !s.regionsValid c then finishChannel s .badConfig
      else finishChannel (s.startOpening c) .done
    | .closed, .stream =>
      if !ch.rx.records.isEmpty || !ch.tx.fifo.isEmpty then finishChannel s .wrongState
      else if !s.regionsValid c then finishChannel s .badConfig
      else finishChannel (s.enterOpen c) .done
    | .listen, _ =>
      if !s.regionsValid c then finishChannel s .badConfig else finishChannel (s.startOpening c) .done
    | _, _ => finishChannel s .wrongState)

/-- LISTEN (05 R76). -/
def execChanListen (s : State) : Out :=
  whenLive s
    (let c := s.host.selected
    let ch := s.chan c
    if ch.link.state = .closed then
      if ch.config.mode = .stream then finishChannel s .badConfig
      else if !ch.rx.records.isEmpty || decide (0 < ch.tx.composing) then finishChannel s .wrongState
      else if !s.regionsValid c then finishChannel s .badConfig
      else finishChannel (s.modChan c (fun ch => ch.moveTo .listen)) .done
    else finishChannel s .wrongState)

/-- CLOSE of a credit channel in OPEN (05 R77): DRAIN, and the drain completion at once when the list is empty. -/
def State.closeCredit (s : State) (c : Chan) : State :=
  let drained := s.modChan c (fun ch => ch.dropComposing.moveTo .drain)
  if (drained.chan c).tx.messages.isEmpty then drained.completeDrain c else drained

/-- CLOSE of a stream channel in OPEN (05 R77): the open message is ended as by POST, then DRAIN, and the drain
completion at once when the FIFO is empty and no message is in progress. -/
def State.closeStream (s : State) (c : Chan) : State :=
  let drained := s.modChan c (fun ch =>
    Channel.moveTo (if ch.tx.openMessage then { ch with tx := ch.tx.endOpenMessage } else ch) .drain)
  if (drained.chan c).tx.fifo.isEmpty && !(drained.chan c).tx.inProgress then drained.completeDrain c else drained

/-- CLOSE from LISTEN or OPENING (05 R77): CLOSED with cause Closed, an Open request withdrawn. -/
def State.closeUnopened (s : State) (c : Chan) : State :=
  (s.closeUnconnected c .closed).withdraw c (fun op => op == .open_)

/-- CLOSE (05 R77). -/
def execChanClose (s : State) : Out :=
  whenLive s
    (let c := s.host.selected
    match (s.chan c).link.state with
    | .opened =>
      match (s.chan c).config.mode with
      | .credit => finishChannel (s.closeCredit c) .done
      | .stream => finishChannel (s.closeStream c) .done
    | .listen => finishChannel (s.closeUnopened c) .done
    | .opening => finishChannel (s.closeUnopened c) .done
    | .drain => finishChannel s .wrongState
    | .closeWait => finishChannel s .wrongState
    | .yield => finishChannel s .wrongState
    | .closed => finishChannel s .wrongState
    | .fault => finishChannel s .wrongState)

/-- RESET of a channel in a connected state (05 R78): a credit channel queues its Reset request first. -/
def State.resetConnected (s : State) (c : Chan) : State :=
  match (s.chan c).config.mode with
  | .credit => (s.queueRequest c .reset).closeConnected c .hostReset
  | .stream => s.closeConnected c .hostReset

/-- RESET (05 R78). -/
def execChanReset (s : State) : Out :=
  whenLive s
    (let c := s.host.selected
    match (s.chan c).link.state with
    | .opening => finishChannel ((s.queueRequest c .reset).closeUnconnected c .hostReset) .done
    | .listen => finishChannel (s.closeUnconnected c .hostReset) .done
    | .opened => finishChannel (s.resetConnected c) .done
    | .drain => finishChannel (s.resetConnected c) .done
    | .closeWait => finishChannel (s.resetConnected c) .done
    | .yield => finishChannel (s.resetConnected c) .done
    | .closed => finishChannel s .nothing
    | .fault => finishChannel s .nothing)

/-- FLUSH of the sending side (05 R79 step 2): the composing message and any FIFO words are discarded; both
positions return to the region's first word when that empties the region (03 R42). -/
def Channel.flushTxSide (ch : Channel) : Channel :=
  let dropped := { ch.tx.discardComposing with fifo := [] }
  { ch with tx := { dropped with free := if 0 < ch.tx.held ∧ dropped.held = 0 then 0 else ch.tx.free } }

/-- FLUSH of a channel in CLOSED or FAULT (05 R79), steps 1 to 4. The cause is kept (03 R48). -/
def Channel.flush (ch : Channel) : Channel :=
  let cleared := { ch.emptyRx.flushTxSide with latches := 0 }
  cleared.moveTo .closed

/-- FLUSH (05 R79). -/
def execChanFlush (s : State) : Out :=
  whenLive s
    (let c := s.host.selected
    if (s.chan c).link.state = .closed ∨ (s.chan c).link.state = .fault then
      finishChannel (s.modChan c Channel.flush) .done
    else finishChannel s .wrongState)

/-- POST of a credit channel (07 R112), in the order of its tests. -/
def State.postCredit (s : State) (c : Chan) : Out :=
  let ch := s.chan c
  if ch.link.state = .listen ∨ ch.link.state = .opening ∨ ch.link.state = .opened then
    if ch.tx.composing = 0 then finishChannel s .nothing
    else if ch.tx.spoiled then finishChannel s .spoiled
    else if Config.maxMessages ≤ ch.tx.messages.length then finishChannel s .noRoom
    else if Config.maxReservations ≤ s.cq.reservations then finishChannel s .noRoom
    else
      finishChannel
        ({ s with cq := { s.cq with reservations := s.cq.reservations + 1 } }.modChan c
          (fun ch => { ch with tx := ch.tx.postComposing })) .done
  else finishChannel s .wrongState

/-- POST of a stream channel (07 R120). -/
def State.postStream (s : State) (c : Chan) : Out :=
  let ch := s.chan c
  if ch.streamSending then
    if ch.tx.openMessage then
      finishChannel (s.modChan c (fun ch => { ch with tx := ch.tx.endOpenMessage })) .done
    else finishChannel s .nothing
  else finishChannel s .wrongState

/-- POST (07 R112, R120). -/
def execChanPost (s : State) : Out :=
  whenLive s
    (match s.selectedChan.config.mode with
    | .credit => s.postCredit s.host.selected
    | .stream => s.postStream s.host.selected)

/-- ABANDON of a credit channel, in every link state (07 R113). -/
def State.abandonCredit (s : State) (c : Chan) : Out :=
  if 0 < (s.chan c).tx.composing then finishChannel (s.modChan c Channel.dropComposing) .done
  else finishChannel s .nothing

/-- ABANDON of a stream channel (07 R121). -/
def State.abandonStream (s : State) (c : Chan) : Out :=
  let ch := s.chan c
  if ch.streamSending then
    if ch.tx.openMessage then
      finishChannel (s.modChan c (fun ch => { ch with tx := ch.tx.abandonOpenMessage })) .done
    else finishChannel s .nothing
  else finishChannel s .wrongState

/-- ABANDON (07 R113, R121). -/
def execChanAbandon (s : State) : Out :=
  whenLive s
    (match s.selectedChan.config.mode with
    | .credit => s.abandonCredit s.host.selected
    | .stream => s.abandonStream s.host.selected)

/-- RELEASE (08 R141). -/
def execChanRelease (s : State) : Out :=
  whenLive s
    (match s.selectedChan.rx.records with
    | [] => finishChannel s .nothing
    | r :: rest =>
      if r.complete then finishChannel (s.modChan s.host.selected (fun ch => ch.releaseHead r rest)) .done
      else finishChannel s .wrongState)

/-- A write to CDATA (07 R111, R119): a taken word is stored at the store position of the TX region. Neither result
changes (11 R168). -/
def execCdataWrite (w : Word) (s : State) : Out :=
  whenLive s
    (let c := s.host.selected
    let ch := s.chan c
    if ch.writeTaken then
      if ch.txStoreAddr < Config.bufferWords then
        finish ({ s with memory := Memory.write s.memory ch.txStoreAddr w }.modChan c Channel.appendWord)
      else .fault (.bufferAddress ch.txStoreAddr)
    else finish (s.modChan c Channel.refuseWrite))

/-- The word that the host read. -/
def State.returns (s : State) (w : Word) : State := { s with host := { s.host with readData := some w } }

/-- The head's read position advances by one (08 R139). -/
def Channel.advanceRead (ch : Channel) (r : RxRecord) (rest : List RxRecord) : Channel :=
  { ch with rx := { ch.rx with records := { r with readPos := r.readPos + 1 } :: rest } }

/-- A read of CDATA that finds no unread word returns 0 and raises ReadEmpty (08 R139). -/
def State.readNothing (s : State) (c : Chan) : State := (s.returns 0).modChan c (fun ch => ch.raise .readEmpty)

/-- A read of CDATA (08 R139): the next unread word of the head record. -/
def execCdataRead (s : State) : Out :=
  whenLive s
    (let c := s.host.selected
    let ch := s.chan c
    match ch.rx.records with
    | [] => finish (s.readNothing c)
    | r :: rest =>
      if r.readPos < r.length then
        let addr := ch.rxRegion.wordAt ch.rx.free r.readPos
        if addr < Config.bufferWords then
          finish ((s.returns (Memory.read s.memory addr)).modChan c (fun ch => ch.advanceRead r rest))
        else .fault (.bufferAddress addr)
      else finish (s.readNothing c))

end Sys2Proof.Machine
end

