-- ==== Sys2Proof/Machine/DeviceCommands.lean ====
section
/-! DEFINITION. The meanings of the device commands (11 R173) and of RESET_PIN (11 R176). -/

namespace Sys2Proof.Machine

/-- The highway starts (01 R10): a Master goes to LOCKED at frame 0 with its slot 0 in progress and LockGained
raised; a Follower goes to ACQUIRE with no pulse seen. The Slot Map is examined under the N used (02 R34). -/
def State.startHighway (s : State) : State :=
  let mapped := { s with map := s.map.startWith s.slots }
  match s.hwi.role with
  | .master =>
    { mapped with hwi := { s.hwi with sync := .locked, frame := 0, position := .header, frameBit := 0,
                                      lastPulse := none, candidate := false } }.raise .lockGained
  | .follower => { mapped with hwi := { s.hwi with sync := .acquire, lastPulse := none, hsyncBit := none,
                                                    candidate := false } }

/-- START (01 R10). -/
def execStart (s : State) : Out :=
  whenLive s
    (match s.hwi.sync with
    | .off => finishDevice s.startHighway .done
    | .acquire => finishDevice s .wrongState
    | .locked => finishDevice s .wrongState
    | .holdover => finishDevice s .wrongState)

/-- STOP (01 R11): from LOCKED or HOLDOVER a highway loss, after the steps that the last frame start made due, so that no
map test outlives its frame (01 R16, 02 R31; log entry 8); from ACQUIRE the acquisition ends. -/
def execStop (s : State) : Out :=
  whenLive s
    (match s.hwi.sync with
    | .off => finishDevice s .nothing
    | .acquire =>
      finishDevice { s with hwi := { s.hwi with sync := .off, lastPulse := none, candidate := false } } .done
    | .locked => finishDevice (s.takeDue.loseHighway .off none) .done
    | .holdover => finishDevice (s.takeDue.loseHighway .off none) .done)

/-- SWITCH (02 R27), in its order of tests. A swap in OFF sets the checked N (02 R34). -/
def execSwitch (s : State) : Out :=
  whenLive s
    (if s.map.target.isSome then finishDevice s .wrongState
    else if !bankValid s.map.pendingBank s.slots then finishDevice s .badConfig
    else if s.hwi.sync = .off then
      finishDevice ({ s with map := { s.map.swap with checkedN := s.slots } }.raise .mapSwitched) .done
    else finishDevice { s with map := { s.map with target := some s.host.darg } } .done)

/-- CANCEL (02 R33). The frame start whose test is still due then makes none. -/
def execCancel (s : State) : Out :=
  whenLive s
    (if s.map.target.isSome then finishDevice { s with map := { s.map with target := none, dueFrame := none } } .done
    else finishDevice s .nothing)

/-- POPCQ (09 R152). -/
def execPopcq (s : State) : Out :=
  whenLive s
    (match s.cq.entries with
    | [] => finishDevice s .nothing
    | _ :: rest =>
      finishDevice { s with cq := { s.cq with entries := rest, reservations := s.cq.reservations - 1 } } .done)

/-- A channel after SOFTRESET: its configuration, its Region Table words, and reset values (11 R175). -/
def Channel.softReset (ch : Channel) : Channel :=
  { Channel.reset with config := ch.config, txRegion := ch.txRegion, rxRegion := ch.rxRegion }

/-- The part after SOFTRESET (11 R175): the configuration kept, everything else at its reset value. The Buffer
Memory's contents are left in place (03 R42). The last word read is no state of the part (log entry 14). -/
def State.softReset (s : State) : State :=
  { s with
    host := { HostPort.reset with readData := s.host.readData }
    hwi := { Highway.reset with role := s.hwi.role, station := s.hwi.station, lengthCode := s.hwi.lengthCode,
                                divider := s.hwi.divider }
    map := { s.map with target := none, checkedN := 8, dueFrame := none }
    lnk := { LinkControl.reset with refreshInterval := s.lnk.refreshInterval, probeDelay := s.lnk.probeDelay,
                                    answerTimeout := s.lnk.answerTimeout, retryCount := s.lnk.retryCount }
    cq := { Completions.reset with threshold := s.cq.threshold }
    evu := { EventUnit.reset with enables := s.evu.enables } }.mapChans Channel.softReset

/-- SOFTRESET (11 R175), taken in every sync state and link state, with result Done. -/
def execSoftreset (s : State) : Out := whenLive s (finishDevice s.softReset .done)

/-- UNKNOWN_COMMAND_CODE (11 R173): an unlisted code is refused with BadConfig in the result of its register, and
no block acts. A word whose code is listed is no such command (log entry 6). -/
def execUnknownCommandCode (port : CmdPort) (w : Word) (s : State) : Out :=
  whenLive s
    (if codeListed port w then .next s
    else
      match port with
      | .device => finishDevice s .badConfig
      | .channel => finishChannel s .badConfig)

/-- RESET_PIN (11 R176): asserted, every block takes its reset value and is held there; released, the part stands
in that state and takes accesses. The queue of waiting commands is not the part's. -/
def execResetPin (asserted : Bool) (s : State) : Out :=
  if asserted then .next { State.reset with resetPin := true, pending := s.pending }
  else .next { s with resetPin := false }

end Sys2Proof.Machine
end

