-- ==== Sys2Proof/Machine/HostWrites.lean ====
section
/-! DEFINITION. The meanings of the register writes (spec 11). -/

namespace Sys2Proof.Machine

/-- HCFG_WRITE (01 R2): station address 3–0, frame length code 5–4, role 8; taken only in OFF. -/
def execHcfgWrite (w : Word) (s : State) : Out :=
  whenLive s
    (if s.hwi.sync = .off then
      finish { s with hwi := { s.hwi with station := w.extractLsb' 0 4, lengthCode := w.extractLsb' 4 2,
                                          role := if w.getLsbD 8 then .master else .follower } }
    else finishDevice s .wrongState)

/-- HDIV_WRITE (01 R2): divider 7–0; taken only in OFF. -/
def execHdivWrite (w : Word) (s : State) : Out :=
  whenLive s
    (if s.hwi.sync = .off then finish { s with hwi := { s.hwi with divider := w.extractLsb' 0 8 } }
    else finishDevice s .wrongState)

/-- DEVPEND_WRITE (10 R157): clears each latch whose position holds a 1; never refused. -/
def execDevpendWrite (w : Word) (s : State) : Out :=
  whenLive s (finish { s with evu := { s.evu with latches := s.evu.latches &&& ~~~(w.extractLsb' 0 7) } })

/-- DEVEN_WRITE (10 R159): stores all eight enables; never refused. -/
def execDevenWrite (w : Word) (s : State) : Out :=
  whenLive s (finish { s with evu := { s.evu with enables := w.extractLsb' 0 8 } })

/-- CEVENT_WRITE (10 R161): clears the selected channel's latches whose positions hold a 1; never refused. -/
def execCeventWrite (w : Word) (s : State) : Out :=
  whenLive s
    (finish (s.modChan s.host.selected (fun ch => { ch with latches := ch.latches &&& ~~~(w.extractLsb' 0 4) })))

/-- TIMING_WRITE (05 R94): answer timeout 7–0, retry count 10–8; a timeout of 0 is refused whole. -/
def execTimingWrite (w : Word) (s : State) : Out :=
  whenLive s
    (if (w.extractLsb' 0 8).toNat = 0 then finishDevice s .badConfig
    else
      finish { s with lnk := { s.lnk with answerTimeout := (w.extractLsb' 0 8).toNat,
                                          retryCount := (w.extractLsb' 8 3).toNat } })

/-- TIMING2_WRITE (06 R108, 04 R65): probe delay 7–0, refresh interval 15–8; a delay of 0 is refused whole. A taken
write sets the refresh count and the count of every running probe timer to 0. An expiry that a frame start made due and
that is not yet taken is dropped with its count: the model's choice (log entry 27). -/
def execTiming2Write (w : Word) (s : State) : Out :=
  whenLive s
    (if (w.extractLsb' 0 8).toNat = 0 then finishDevice s .badConfig
    else
      finish ({ s with lnk := { s.lnk with probeDelay := (w.extractLsb' 0 8).toNat,
                                           refreshInterval := (w.extractLsb' 8 8).toNat,
                                           refreshCount := 0 } }.mapChans Channel.resetProbe))

/-- CQTHR_WRITE (09 R154): threshold 5–0; 0 and 33 or more are refused. -/
def execCqthrWrite (w : Word) (s : State) : Out :=
  whenLive s
    (let t := (w.extractLsb' 0 6).toNat
    if 1 ≤ t ∧ t ≤ 32 then finish { s with cq := { s.cq with threshold := t } } else finishDevice s .badConfig)

/-- TSEL_WRITE (11 R170): index 6–0, table 10–8; checked. -/
def execTselWrite (w : Word) (s : State) : Out :=
  whenLive s
    (match tselOfWord w with
    | some (t, i) => finish { s with host := { s.host with table := t, index := i } }
    | none => finishDevice s .badConfig)

/-- REGISTER_WRITE (11 R166, R168): DARG, CTAG and CHSEL store the word; a write to a read-only register or to an
unused offset is ignored. CHSEL takes channel 3–0 and credit view 4 (R172). -/
def execRegisterWrite (r : PlainReg) (w : Word) (s : State) : Out :=
  whenLive s
    (match r with
    | .darg => finish { s with host := { s.host with darg := w } }
    | .ctag => finish (s.modChan s.host.selected (fun ch => { ch with tx := { ch.tx with tag := w } }))
    | .chsel =>
      finish { s with host := { s.host with selected := chanOfField (w.extractLsb' 0 4), creditView := w.getLsbD 4 } }
    | .frame => finish s
    | .mapstat => finish s
    | .chsum => finish s
    | .cq0 => finish s
    | .cq1 => finish s
    | .txfree => finish s
    | .rxlen => finish s
    | .rxflags => finish s
    | .rxframe0 => finish s
    | .rxframe1 => finish s
    | .crstat => finish s
    | .unused _ => finish s)

end Sys2Proof.Machine
end

