-- ==== Sys2Proof/Machine/SlotEvents.lean ====
section
/-! DEFINITION. The meanings of the slot events (01 section 1.4, 02 section 2.2). An event that begins a slot takes the
steps that are still due first; a report, which ends one, takes none (log entry 8). One whose slot cannot begin now, or whose active entry is of another use, leaves the
part as it is (log entry 6). -/

namespace Sys2Proof.Machine

/-- The answer of the Transmit Engine is driven (01 R4), its word read from the Buffer Memory (03 R43). -/
def State.driveAnswer (s : State) (n : Slot) (c : Chan) (a : Answer) : Out :=
  match a.source with
  | none => finish ((s.setChan c a.after).drive n (slotWord a.kind (s.chan c).config.fillValue) a.owner)
  | some addr =>
    if addr < Config.bufferWords then
      finish ((s.setChan c a.after).drive n (slotWord a.kind (Memory.read s.memory addr)) a.owner)
    else .fault (.bufferAddress addr)

/-- TXDATA_OFFER (07 R114, R122; 01 R4) at the start of slot `n`. -/
def execTxdataOffer (n : Slot) (s : State) : Out :=
  whenLive s
    (let t := s.takeDue
    match t.slotReady n, t.entryOf n with
    | true, .txData c =>
      match (t.chan c).offer c with
      | some a => t.driveAnswer n c a
      | none => finish (t.enterSlot n)
    | _, _ => .next s)

/-- TXDATA_REPORT (07 R115, R123; 01 R5) at the end of the slot in progress; `line` is what the part read back. -/
def execTxdataReport (line : SlotBits) (s : State) : Out :=
  whenLive s
    (match s.hwi.line with
    | none => .next s
    | some l =>
      let clash := clashed l.bits line
      match l.owner with
      | .creditData c => finish ((s.endLine clash).reportCredit c clash)
      | .streamWord c => finish ((s.endLine clash).modChan c Channel.reportStreamWord)
      | .streamFill c => finish ((s.endLine clash).modChan c (fun ch => ch.count .underruns))
      | .streamEnd _ => finish (s.endLine clash)
      | .control => .next s)

/-- TXCONTROL_OFFER (04 R66; 01 R4) at the start of slot `n`. -/
def execTxcontrolOffer (n : Slot) (s : State) : Out :=
  whenLive s
    (let t := s.takeDue
    match t.slotReady n, t.entryOf n with
    | true, .txControl =>
      match t.arbitrate with
      | (some payload, t1) => finish (t1.drive n (slotWord .control payload) .control)
      | (none, t1) => finish (t1.enterSlot n)
    | _, _ => .next s)

/-- TXCONTROL_REPORT (04 R67; 01 R5) at the end of the slot in progress; `line` is what the part read back. -/
def execTxcontrolReport (line : SlotBits) (s : State) : Out :=
  whenLive s
    (match s.hwi.line with
    | none => .next s
    | some l =>
      match l.owner with
      | .control => finish ((s.endLine (clashed l.bits line)).settleControl (clashed l.bits line))
      | .creditData _ => .next s
      | .streamWord _ => .next s
      | .streamFill _ => .next s
      | .streamEnd _ => .next s)

/-- What the HWI does with a word of an RxData or RxControl slot before it hands it on (01 R6): a check error is
counted with LineError, and a Header is out of place. -/
def State.screen (s : State) (w : Received) : State :=
  match w with
  | .checkError => s.lineFault .checkErrors
  | .word .header _ => s.countHw .kindMismatches
  | .word _ _ => s

/-- The word of an RxData slot would be stored outside the Buffer Memory (log entry 5): it is a data word that a
channel in a receiving state stores, and the store position does not exist. -/
def Channel.storesOutside (ch : Channel) (frame : Word) (w : Received) : Bool :=
  match w with
  | .checkError => false
  | .word k _ =>
    k.isData && ch.receiving && (ch.dataWord frame k).2 && decide (Config.bufferWords ≤ ch.rxStoreAddr)

/-- RXDATA_WORD (01 R6, 02 R23): the 20 bits of slot `n` at its end. -/
def execRxdataWord (n : Slot) (line : SlotBits) (s : State) : Out :=
  whenLive s
    (let t := s.takeDue
    match t.slotReady n, t.entryOf n with
    | true, .rxData c =>
      let w := receive line
      if (t.chan c).storesOutside t.hwi.frame w then .fault (.bufferAddress (t.chan c).rxStoreAddr)
      else finish (((t.enterSlot n).screen w).receiveData c w)
    | _, _ => .next s)

/-- RXCONTROL_WORD (01 R6, 04 R54): the 20 bits of slot `n` at its end. -/
def execRxcontrolWord (n : Slot) (line : SlotBits) (s : State) : Out :=
  whenLive s
    (let t := s.takeDue
    match t.slotReady n, t.entryOf n with
    | true, .rxControl p => finish (((t.enterSlot n).screen (receive line)).receiveControl p (receive line))
    | _, _ => .next s)

/-- What the Slot Map does with a word of an Unused slot (02 R24). -/
def State.disposeUnused (s : State) (w : Received) : State :=
  match w with
  | .checkError => s
  | .word .first _ => s.countHw .strays
  | .word .middle _ => s.countHw .strays
  | .word .last _ => s.countHw .strays
  | .word .only _ => s.countHw .strays
  | .word .header _ => s.countHw .kindMismatches
  | .word .control _ => s
  | .word .fill _ => s
  | .word .idle _ => s

/-- UNUSED_SLOT_WORD (02 R24): the 20 bits of slot `n` at its end. -/
def execUnusedSlotWord (n : Slot) (line : SlotBits) (s : State) : Out :=
  whenLive s
    (let t := s.takeDue
    match t.slotReady n, t.entryOf n with
    | true, .unused => finish ((t.enterSlot n).disposeUnused (receive line))
    | _, _ => .next s)

end Sys2Proof.Machine
end

