-- ==== Sys2Proof/Machine/SyncEvents.lean ====
section
/-! DEFINITION. The meanings of the synchronisation events, the header slots and the steps that fall due (spec 01
section 1.6, 02 R29, 04 R65, 05 R88 to R93, 06 R108). An event that the sync state, the role or the slot position
rules out leaves the part as it is (log entry 6). -/

namespace Sys2Proof.Machine

/-- ACQUIRE_PULSE (01 R12): HSYNC found asserted at bit clock `clock` in ACQUIRE. A pulse exactly one frame after the
last opens a candidate frame; any other, and one found while a candidate's slot 0 is read, is recorded only. An HSYNC held
from the bit clock before is no further pulse (01 R1; log entry 29). -/
def execAcquirePulse (clock : Nat) (s : State) : Out :=
  whenLive s
    (if s.hwi.sync = .acquire then
      if s.hwi.pulseAt clock = true then
        let opens := !s.hwi.candidate && s.hwi.lastPulse.any (fun last => clock == last + 20 * s.slots)
        finish (State.noteHsync { s with hwi := { s.hwi with lastPulse := some clock, candidate := opens } } clock)
      else if s.hwi.heldAt clock = true then finish (s.noteHsync clock)
      else .next s
    else .next s)

/-- The Follower locks on the Header of a candidate frame (01 R12). -/
def State.lockOn (s : State) (payload : Word) : State :=
  State.frameStart
    ({ s with hwi := { s.hwi with sync := .locked, frame := payload, frameBit := s.hwi.lastPulse.getD 0,
                                  lastPulse := none, candidate := false } }.raise .lockGained)

/-- CANDIDATE_HEADER (01 R12): the 20 bits of slot 0 of a candidate frame. -/
def execCandidateHeader (line : SlotBits) (s : State) : Out :=
  whenLive s
    (if s.hwi.sync = .acquire ∧ s.hwi.candidate = true then
      let t := s.takeDue
      match validHeader line with
      | some payload => finish (t.lockOn payload)
      | none => finish { t with hwi := { t.hwi with candidate := false } }
    else .next s)

/-- SYNC_MISS (01 R13): no pulse at the expected bit in LOCKED. HOLDOVER, and the new frame begins on the part's own
count. -/
def execSyncMiss (s : State) : Out :=
  whenLive s
    (if s.hwi.role = .follower ∧ s.hwi.sync = .locked ∧ s.hwi.betweenSlots = true then
      let t := s.takeDue
      finish ({ t with hwi := { t.hwi with sync := .holdover } }.countHw .syncMisses).beginFrame
    else .next s)

/-- A Follower loses the highway by its HSYNC pulses (01 R13, R14): SyncMisses advances and LockLost is raised. -/
def State.loseLock (s : State) (pulse : Option Nat) : State :=
  ((s.countHw .syncMisses).raise .lockLost).loseHighway .acquire pulse

/-- HOLDOVER_MISS (01 R14): a second missing pulse; no pulse is recorded for acquisition. -/
def execHoldoverMiss (s : State) : Out :=
  whenLive s
    (if s.hwi.role = .follower ∧ s.hwi.sync = .holdover ∧ s.hwi.betweenSlots = true then
      finish (s.takeDue.loseLock none)
    else .next s)

/-- MISPLACED_PULSE (01 R13, R14): HSYNC found asserted at bit position `bit` of the running frame, not the expected one.
A pulse there becomes the last pulse seen; an HSYNC held from the bit clock before is none (01 R1; log entry 29). -/
def execMisplacedPulse (bit : Nat) (s : State) : Out :=
  whenLive s
    (if s.hwi.followerRuns = true ∧ 0 < bit ∧ bit < 20 * s.slots then
      let clock := s.hwi.frameBit + bit
      if s.hwi.pulseAt clock = true then finish ((s.takeDue.noteHsync clock).loseLock (some clock))
      else if s.hwi.heldAt clock = true then finish (s.takeDue.noteHsync clock)
      else .next s
    else .next s)

/-- PULSE_AT_EXPECTED_BIT (01 R13, R14): HSYNC found asserted at the expected bit. On a pulse the new frame begins, and
from HOLDOVER the HWI returns to LOCKED; no event is raised and no counter advances. An HSYNC held from the bit clock
before is no pulse (01 R1; log entry 29), and the frame then begins, or is lost, by its missing pulse. -/
def execPulseAtExpectedBit (s : State) : Out :=
  whenLive s
    (if s.hwi.followerRuns = true ∧ s.hwi.betweenSlots = true then
      if s.hwi.pulseAt s.hwi.expectedBit = true then
        let t := s.takeDue
        finish { t with hwi := { t.hwi with sync := .locked } }.beginFrameOnPulse
      else if s.hwi.heldAt s.hwi.expectedBit = true then finish (s.takeDue.noteHsync s.hwi.expectedBit)
      else .next s
    else .next s)

/-- What a Follower makes of the word of slot 0 (01 R8): the number of the frame, with its counters and events. -/
def State.checkHeader (s : State) (line : SlotBits) : State :=
  match validHeader line with
  | some payload =>
    if payload = s.hwi.frame then s
    else ({ s with hwi := { s.hwi with frame := payload } }.countHw .frameSlips).raise .frameSlip
  | none => s.lineFault .headerFaults

/-- FOLLOWER_HEADER_SLOT (01 R8, R9): slot 0 ends, the frame number is settled and the frame start is given. -/
def execFollowerHeaderSlot (line : SlotBits) (s : State) : Out :=
  whenLive s
    (if s.hwi.followerHeaderReady = true then
      finish (s.takeDue.inFollowerFrame.checkHeader line).frameStart
    else .next s)

/-- A Master clash in slot 0 (01 R15): the part stops driving and moves to OFF. -/
def State.masterConflict (s : State) : State := ((s.lineFault .clashes).raise .masterConflict).loseHighway .off none

/-- MASTER_HEADER_SLOT (01 R7, R15): a Master drives the Header; `line` is what it reads back. -/
def execMasterHeaderSlot (line : SlotBits) (s : State) : Out :=
  whenLive s
    (if s.hwi.masterRuns = true ∧ (s.hwi.position = .header ∨ s.hwi.betweenSlots = true) then
      let t := s.takeDue.inMasterFrame
      if clashed (slotWord .header t.hwi.frame) line then finish t.masterConflict else finish t.frameStart
    else .next s)

/-! ### Steps that fall due -/

/-- MAP_SWITCH (02 R29): the frame-start test of the pending switch. -/
def execMapSwitch (s : State) : Out := whenLive s (finish s.mapTest)

/-- ANSWER_TIMER_EXPIRY (05 R92, R93) of channel `c`. -/
def execAnswerTimerExpiry (c : Chan) (s : State) : Out := whenLive s (finish (s.takeAnswerExpiry c))

/-- PROBE_TIMER_EXPIRY (06 R108) of channel `c`. -/
def execProbeTimerExpiry (c : Chan) (s : State) : Out := whenLive s (finish (s.takeProbeExpiry c))

/-- REFRESH_TIMER_EXPIRY (04 R65). -/
def execRefreshTimerExpiry (s : State) : Out := whenLive s (finish s.takeRefresh)

/-- DRAIN_COMPLETION (05 R88 to R90) of channel `c`. -/
def execDrainCompletion (c : Chan) (s : State) : Out := whenLive s (finish (s.takeDrain c))

end Sys2Proof.Machine
end

