-- ==== Sys2Proof/Machine/TableAccess.lean ====
section
/-! DEFINITION. The meanings of the accesses to TDATA (11 R171). Each row is an access while TSEL names a table of
the row; while TSEL names another table the row is no access (log entry 6). -/

namespace Sys2Proof.Machine

/-- After every TDATA access the index advances by one, and from the last index of the table it returns to 0
(11 R171). -/
def State.advanceIndex (s : State) : State :=
  { s with host := { s.host with index := if s.host.index + 1 < tableSize s.host.table then s.host.index + 1 else 0 } }

/-- An access to TDATA while TSEL names one of the given tables: the owner's action, then the advance. -/
def tableAccess (s : State) (tables : List Nat) (act : State) : Out :=
  whenLive s (if s.host.table ∈ tables then finish act.advanceIndex else .next s)

/-- The word that a TDATA read returns. -/
def State.returnTable (s : State) : State :=
  { s with host := { s.host with readData := some (s.tableWord s.host.table s.host.index) } }

/-- What the Slot Map does with a write to entry i of the pending bank (02 R25). -/
def State.writePending (s : State) (i : Slot) (w : Word) : State :=
  if s.map.target.isSome then s.setDeviceResult .wrongState
  else
    match mapUseOfWord w with
    | some u => { s with map := s.map.setBank s.map.active.other (s.map.pendingBank.set i u) }
    | none => s.setDeviceResult .badConfig

/-- PENDING_BANK_WRITE (02 R25): a write through table 0. -/
def execPendingBankWrite (w : Word) (s : State) : Out :=
  tableAccess s [0] (s.writePending (Fin.ofNat 64 s.host.index) w)

/-- The channel is in CLOSED with no stored words (03 R39). -/
def Channel.reconfigurable (ch : Channel) : Bool := ch.link.state == .closed && !ch.hasStoredWords

/-- The channel with a new TX region (03 R42, R45). -/
def Channel.giveTxRegion (ch : Channel) (r : Region) : Channel :=
  { ch with txRegion := r, tx := { ch.tx with free := 0 } }

/-- The channel with a new RX region (03 R42, R45). -/
def Channel.giveRxRegion (ch : Channel) (r : Region) : Channel :=
  { ch with rxRegion := r, rx := { ch.rx with free := 0 } }

/-- What the Buffer Memory does with a write to Region Table word i (03 R45). A region that is given anew is empty, and
both its positions start at its first word (03 R42). TxSpace follows the new size when the command ends (log
entry 28). -/
def State.writeRegion (s : State) (i : Nat) (w : Word) : State :=
  let c := chanOfIndex i 2
  match regionOfWord w with
  | none => s.setDeviceResult .badConfig
  | some r =>
    if (s.chan c).reconfigurable then
      s.modChan c (fun ch => if i % 2 = 0 then ch.giveTxRegion r else ch.giveRxRegion r)
    else s.setDeviceResult .wrongState

/-- REGION_TABLE_WRITE (03 R45): a write through table 2. -/
def execRegionTableWrite (w : Word) (s : State) : Out := tableAccess s [2] (s.writeRegion s.host.index w)

/-- What the configuration store does with a write to configuration word i of table 3 (03 R38 to R40): the range
check, then for word 0 the state test. -/
def State.writeConfig (s : State) (i : Nat) (w : Word) : State :=
  let c := chanOfIndex i 6
  match (s.chan c).config.write (i % 6) w with
  | none => s.setDeviceResult .badConfig
  | some g =>
    if i % 6 = 0 ∧ (s.chan c).reconfigurable = false then s.setDeviceResult .wrongState
    else s.modChan c (fun ch => { ch with config := g })

/-- CONFIG_WORD_WRITE (03 R38 to R40): a write through table 3. -/
def execConfigWordWrite (w : Word) (s : State) : Out := tableAccess s [3] (s.writeConfig s.host.index w)

/-- CHANNEL_COUNTER_READ (03 R50): a read of table 4 returns the counter and sets it to 0. -/
def execChannelCounterRead (s : State) : Out :=
  tableAccess s [4]
    (s.returnTable.modChan (chanOfIndex s.host.index 6) (fun ch =>
      { ch with counters := ch.counters.set (Fin.ofNat 6 s.host.index) 0 }))

/-- HIGHWAY_COUNTER_READ (01 R17): a read of table 5 returns the counter and sets it to 0. -/
def execHighwayCounterRead (s : State) : Out :=
  tableAccess s [5]
    { s.returnTable with hwi := { s.hwi with counters := s.hwi.counters.set (Fin.ofNat 9 s.host.index) 0 } }

/-- TABLE_READ (11 R171): a read of tables 0 to 3 returns the word as it stands. -/
def execTableRead (s : State) : Out := tableAccess s [0, 1, 2, 3] s.returnTable

/-- TABLE_WRITE_IGNORED (02 R26, 03 R50, 01 R17): a write to tables 1, 4 and 5 stores nothing and changes no
result. -/
def execTableWriteIgnored (_w : Word) (s : State) : Out := tableAccess s [1, 4, 5] s

end Sys2Proof.Machine
end

