-- ==== Sys2Proof/Machine/Dispatch.lean ====
section
/-! DEFINITION. The meaning of every command, one arm per row of spec/opcode_table.json. -/

namespace Sys2Proof.Machine

def exec (i : Instr) (s : State) : Host.Outcome State Fault Refusal :=
  match i with
  | .start => Sys2Proof.Machine.execStart s
  | .stop => Sys2Proof.Machine.execStop s
  | .switch => Sys2Proof.Machine.execSwitch s
  | .cancel => Sys2Proof.Machine.execCancel s
  | .popcq => Sys2Proof.Machine.execPopcq s
  | .softreset => Sys2Proof.Machine.execSoftreset s
  | .unknownCommandCode port w => Sys2Proof.Machine.execUnknownCommandCode port w s
  | .chanOpen => Sys2Proof.Machine.execChanOpen s
  | .chanListen => Sys2Proof.Machine.execChanListen s
  | .chanClose => Sys2Proof.Machine.execChanClose s
  | .chanReset => Sys2Proof.Machine.execChanReset s
  | .chanFlush => Sys2Proof.Machine.execChanFlush s
  | .chanPost => Sys2Proof.Machine.execChanPost s
  | .chanAbandon => Sys2Proof.Machine.execChanAbandon s
  | .chanRelease => Sys2Proof.Machine.execChanRelease s
  | .cdataWrite w => Sys2Proof.Machine.execCdataWrite w s
  | .cdataRead => Sys2Proof.Machine.execCdataRead s
  | .hcfgWrite w => Sys2Proof.Machine.execHcfgWrite w s
  | .hdivWrite w => Sys2Proof.Machine.execHdivWrite w s
  | .devpendWrite w => Sys2Proof.Machine.execDevpendWrite w s
  | .devenWrite w => Sys2Proof.Machine.execDevenWrite w s
  | .ceventWrite w => Sys2Proof.Machine.execCeventWrite w s
  | .timingWrite w => Sys2Proof.Machine.execTimingWrite w s
  | .timing2Write w => Sys2Proof.Machine.execTiming2Write w s
  | .cqthrWrite w => Sys2Proof.Machine.execCqthrWrite w s
  | .tselWrite w => Sys2Proof.Machine.execTselWrite w s
  | .pendingBankWrite w => Sys2Proof.Machine.execPendingBankWrite w s
  | .regionTableWrite w => Sys2Proof.Machine.execRegionTableWrite w s
  | .configWordWrite w => Sys2Proof.Machine.execConfigWordWrite w s
  | .channelCounterRead => Sys2Proof.Machine.execChannelCounterRead s
  | .highwayCounterRead => Sys2Proof.Machine.execHighwayCounterRead s
  | .tableRead => Sys2Proof.Machine.execTableRead s
  | .tableWriteIgnored w => Sys2Proof.Machine.execTableWriteIgnored w s
  | .registerWrite r w => Sys2Proof.Machine.execRegisterWrite r w s
  | .resetPin asserted => Sys2Proof.Machine.execResetPin asserted s
  | .acquirePulse clock => Sys2Proof.Machine.execAcquirePulse clock s
  | .candidateHeader line => Sys2Proof.Machine.execCandidateHeader line s
  | .syncMiss => Sys2Proof.Machine.execSyncMiss s
  | .holdoverMiss => Sys2Proof.Machine.execHoldoverMiss s
  | .misplacedPulse bit => Sys2Proof.Machine.execMisplacedPulse bit s
  | .followerHeaderSlot line => Sys2Proof.Machine.execFollowerHeaderSlot line s
  | .masterHeaderSlot line => Sys2Proof.Machine.execMasterHeaderSlot line s
  | .mapSwitch => Sys2Proof.Machine.execMapSwitch s
  | .answerTimerExpiry c => Sys2Proof.Machine.execAnswerTimerExpiry c s
  | .probeTimerExpiry c => Sys2Proof.Machine.execProbeTimerExpiry c s
  | .refreshTimerExpiry => Sys2Proof.Machine.execRefreshTimerExpiry s
  | .txdataOffer n => Sys2Proof.Machine.execTxdataOffer n s
  | .txdataReport line => Sys2Proof.Machine.execTxdataReport line s
  | .drainCompletion c => Sys2Proof.Machine.execDrainCompletion c s
  | .txcontrolOffer n => Sys2Proof.Machine.execTxcontrolOffer n s
  | .txcontrolReport line => Sys2Proof.Machine.execTxcontrolReport line s
  | .rxdataWord n line => Sys2Proof.Machine.execRxdataWord n line s
  | .rxcontrolWord n line => Sys2Proof.Machine.execRxcontrolWord n line s
  | .unusedSlotWord n line => Sys2Proof.Machine.execUnusedSlotWord n line s
  | .pulseAtExpectedBit => Sys2Proof.Machine.execPulseAtExpectedBit s

end Sys2Proof.Machine
end

