-- ==== Sys2Proof/Safety.lean ====
section
/-! DEFINITION. What the claims about the part are stated in: the invariants that the spec names, what a highway
loss does to one channel, and the rows of the steps that fall due in their order. -/

namespace Sys2Proof.Machine

/-! ### Invariants -/

/-- Messages in all TX Message Lists. -/
def State.listed (s : State) : Nat := ((List.finRange 16).map (fun c => (s.chan c).tx.messages.length)).sum

/-- 09 R148: entries plus listed messages equal the reservations in use, which never exceed 32. -/
def ReservationsBalance (s : State) : Prop :=
  s.cq.entries.length + s.listed = s.cq.reservations ∧ s.cq.reservations ≤ 32

/-- The word that a channel's sending side has on the line is the word that the HWI drives for it, and the channel
may send: a credit channel is connected, a stream channel is in OPEN or DRAIN (07 R114, R118, R122). -/
def LineAgrees (s : State) : Prop :=
  ∀ c : Chan, (s.chan c).tx.onLine = true →
    (∃ bits, s.hwi.line = some ⟨bits, .creditData c⟩ ∧ (s.chan c).creditConnected = true) ∨
    (∃ bits, s.hwi.line = some ⟨bits, .streamWord c⟩ ∧ (s.chan c).config.mode = .stream ∧
      (s.chan c).streamSending = true)

/-- 06 R95: words held plus outstanding word credits never exceed the RX region, records plus outstanding message
credits never exceed 16; and a channel that is not a credit channel in a connected state has every total 0
(05 R73, 06 R97, R105). -/
def CreditsBounded (s : State) : Prop :=
  ∀ c : Chan,
    (s.chan c).rx.held + (s.chan c).credits.outstandingWords ≤ (s.chan c).rxRegion.capacity ∧
    (s.chan c).rx.records.length + (s.chan c).credits.outstandingMsgs ≤ 16 ∧
    ((s.chan c).creditConnected = false → (s.chan c).credits = Credits.zero)

/-- 03 R46: the regions of channels not in CLOSED lie inside the memory and overlap no other such region. -/
def RegionsApart (s : State) : Prop :=
  ∀ c : Chan, (s.chan c).link.state ≠ .closed →
    (s.chan c).txRegion.inside = true ∧ (s.chan c).rxRegion.inside = true ∧
    (s.chan c).txRegion.overlaps (s.chan c).rxRegion = false ∧
    ∀ d : Chan, d ≠ c → (s.chan d).link.state ≠ .closed →
      (s.chan c).txRegion.overlaps (s.chan d).txRegion = false ∧
      (s.chan c).txRegion.overlaps (s.chan d).rxRegion = false ∧
      (s.chan c).rxRegion.overlaps (s.chan d).txRegion = false ∧
      (s.chan c).rxRegion.overlaps (s.chan d).rxRegion = false

/-- The opcodes of each class (04 R59). -/
def CtlClass.allows : CtlClass → Opcode → Bool
  | .request, .open_ | .request, .close | .request, .reset | .request, .probe => true
  | .response, .openAck | .response, .closeAck | .response, .reset => true
  | .request, .openAck | .request, .closeAck | .request, .wordLevel | .request, .msgLevel => false
  | .response, .open_ | .response, .close | .response, .probe | .response, .wordLevel | .response, .msgLevel => false

/-- 04 R59: no two entries of one channel and class, and every entry holds an opcode of its class. -/
def QueueInOrder (s : State) : Prop :=
  (s.lnk.queue.map (fun e => (e.chan, e.cls))).Nodup ∧ ∀ e ∈ s.lnk.queue, e.cls.allows e.opcode = true

/-- 02 R21 and what keeps it: under the checked N the active bank holds at most one TxControl entry, and so does the
pending bank while a switch is pending; outside OFF the N in use is the checked N (R27, R28, R34). -/
def PlanValid (s : State) : Prop :=
  8 ≤ s.map.checkedN ∧
  txControlCount s.map.activeBank s.map.checkedN ≤ 1 ∧
  (s.map.target.isSome = true → txControlCount s.map.pendingBank s.map.checkedN ≤ 1) ∧
  (s.hwi.sync ≠ .off → s.slots = s.map.checkedN)

/-- 05 R70, 06 R107, 03 Table 14: the answer timer runs in OPENING and CLOSEWAIT and in no other state, the probe
timer runs for the credit channels in a connected state, and a stream channel is in CLOSED, OPEN or DRAIN. -/
def TimersFollowLinks (s : State) : Prop :=
  ∀ c : Chan,
    ((s.chan c).link.answerTimer.isSome = true ↔
      ((s.chan c).link.state = .opening ∨ (s.chan c).link.state = .closeWait)) ∧
    ((s.chan c).probe.isSome = true ↔ (s.chan c).creditConnected = true) ∧
    ((s.chan c).config.mode = .stream →
      ((s.chan c).link.state = .closed ∨ (s.chan c).link.state = .opened ∨ (s.chan c).link.state = .drain))

/-- 05 R73, 07 R110, 03 R37: the list of a channel holds at most 8 messages, each with a word still to send, and it
is empty in CLOSED and FAULT and in stream mode; the Spoiled mark is clear while nothing is composed. -/
def SendingSidesSound (s : State) : Prop :=
  ∀ c : Chan,
    (s.chan c).tx.messages.length ≤ 8 ∧
    (∀ m ∈ (s.chan c).tx.messages, m.sent < m.length) ∧
    (((s.chan c).link.state = .closed ∨ (s.chan c).link.state = .fault ∨ (s.chan c).config.mode = .stream) →
      (s.chan c).tx.messages = [] ∧ (s.chan c).tx.composing = 0) ∧
    ((s.chan c).tx.composing = 0 → (s.chan c).tx.spoiled = false)

/-- 08 R128: only the newest record may be incomplete, and then the channel is in a receiving state and no discard
state is in force (R72, R130); a read position never passes the length stored. -/
def RecordsInOrder (s : State) : Prop :=
  ∀ c : Chan,
    (∀ r ∈ (s.chan c).rx.records.dropLast, r.complete = true) ∧
    (∀ r ∈ (s.chan c).rx.records, r.readPos ≤ r.length) ∧
    ((s.chan c).rx.openRecord.isSome = true →
      (s.chan c).receiving = true ∧ (s.chan c).rx.discard = false)

/-- 10 R158, R162 to R164: the level values handed to the Event Unit, CHSUM and INT# are what their inputs give, bit
by bit. -/
def EventsFollow (s : State) : Prop :=
  (s.evu.cqReady = true ↔ s.cq.threshold ≤ s.cq.entries.length) ∧
  (∀ c : Chan, s.evu.rxReady.getLsbD c.val = (s.chan c).rxReadyNow) ∧
  (∀ c : Chan, s.evu.txSpace.getLsbD c.val = (s.chan c).txSpaceNow) ∧
  (∀ c : Chan, s.evu.summary.getLsbD c.val = true ↔
    ∃ i : Fin 6, (s.chan c).config.enables.getLsbD i.val = true ∧
      (cevent (s.chan c).latches (s.evu.rxReady.getLsbD c.val) (s.evu.txSpace.getLsbD c.val)).getLsbD i.val = true) ∧
  (s.evu.intAsserted = true ↔
    ((∃ i : Fin 8, s.evu.devpend.getLsbD i.val = true ∧ s.evu.enables.getLsbD i.val = true) ∨
      ∃ c : Chan, s.evu.summary.getLsbD c.val = true))

/-- The use of the map entry in whose slots an owner's words go out (02 Table 12). -/
def LineOwner.use : LineOwner → MapUse
  | .creditData c | .streamWord c | .streamFill c | .streamEnd c => .txData c
  | .control => .txControl

/-- 01 R4: a word of the part stands on the line only while slots are served, in a slot of the frame whose active entry
is its owner's, and then the map test of the frame is made (01 R9). 02 R29, R31: a map test stands due only for a
pending switch and while frames run. -/
def LineInService (s : State) : Prop :=
  (∀ l : LineWord, s.hwi.line = some l → s.hwi.running = true ∧ s.map.dueFrame = none ∧
    ∃ n : Slot, 0 < n.val ∧ n.val < s.slots ∧ s.hwi.position = .served n.val ∧ s.entryOf n = l.owner.use) ∧
  (s.map.dueFrame ≠ none → s.map.target ≠ none ∧ s.hwi.running = true)

/-! ### Highway loss -/

/-- 08 R138 on one channel, from `a` to `b`: the open record is closed Broken with RxTrouble, the discard state ends,
and nothing else of the receiving side changes. -/
def RxLossOn (a b : Channel) : Prop :=
  b.rx.free = a.rx.free ∧ b.rx.discard = false ∧
  (a.rx.openRecord = none → b.rx.records = a.rx.records ∧ b.latches = a.latches) ∧
  ∀ r, a.rx.openRecord = some r →
    b.rx.records =
      a.rx.records.dropLast ++
        [{ r with complete := true, flags := { r.flags with broken := true }, lastFrame := none }] ∧
    b.latches = a.latches ||| BitVec.twoPow 4 3

/-- 07 R117 and R124 on one channel: a started head of a credit channel begins again from its First word, and the
word on the line and the message in progress of a sending stream channel are given up. -/
def TxLossOn (a b : Channel) : Prop :=
  (a.config.mode = .credit →
    ∃ ms, b.tx = { a.tx with messages := ms, onLine := false } ∧ (a.tx.messages = [] → ms = []) ∧
      ∀ m rest, a.tx.messages = m :: rest →
        ms = (if 0 < m.sent ∨ a.tx.onLine = true then
          { m with sent := 0, clashed := false, restarted := true } else m) :: rest) ∧
  (a.config.mode = .stream → a.streamSending = true →
    b.tx = { a.tx with
      fifo := if a.tx.onLine then a.tx.fifo.tail else a.tx.fifo
      free := if a.tx.onLine then (a.tx.free + 1) % a.txRegion.capacity else a.tx.free
      onLine := false
      inProgress := false
      pendingEnd := a.tx.pendingEnd && !a.tx.inProgress
      restartMark := a.tx.restartMark || (a.tx.inProgress && !a.tx.pendingEnd) }) ∧
  (a.config.mode = .stream → a.streamSending = false → b.tx = a.tx)

/-- 01 R16, 06 R106: what a highway loss keeps and changes on a channel. -/
def LossOn (a b : Channel) : Prop :=
  b.link = a.link ∧ b.credits = a.credits ∧ b.probe = a.probe ∧ b.config = a.config ∧
  b.txRegion = a.txRegion ∧ b.rxRegion = a.rxRegion ∧ b.counters = a.counters ∧
  b.wordMark = { a.wordMark with chosen := false } ∧ b.msgMark = { a.msgMark with chosen := false } ∧
  RxLossOn a b ∧ TxLossOn a b

/-- 01 R16: a highway loss of the part, from `a` to `b`, that leads to sync state `dest` with `pulse` the last pulse
seen. The slot in progress is abandoned and every link state and every queue entry is kept. -/
def LossTo (dest : Sync) (pulse : Option Nat) (a b : State) : Prop :=
  b.hwi = { a.hwi with sync := dest, position := .none, lastPulse := pulse, candidate := false, line := none } ∧
  b.lnk = { a.lnk with queue := a.lnk.queue.map (fun e => { e with chosen := false }) } ∧
  b.map = a.map ∧ b.memory = a.memory ∧ b.cq = a.cq ∧ b.resetPin = a.resetPin ∧ b.pending = a.pending ∧
  b.evu.enables = a.evu.enables ∧
  ∀ c : Chan, LossOn (a.chan c) (b.chan c)

/-! ### Who may write the results (11 R168, R169) -/

/-- The channel commands (11 R173). -/
def channelCommands : List Instr :=
  [.chanOpen, .chanListen, .chanClose, .chanReset, .chanFlush, .chanPost, .chanAbandon, .chanRelease]

/-- The device commands (11 R173). -/
def deviceCommands : List Instr := [.start, .stop, .switch, .cancel, .popcq, .softreset]

/-- The register and table writes that a rule may refuse (11 Table 32, R171). -/
def refusableWrites (w : Word) : List Instr :=
  [.hcfgWrite w, .hdivWrite w, .timingWrite w, .timing2Write w, .cqthrWrite w, .tselWrite w,
    .pendingBankWrite w, .regionTableWrite w, .configWordWrite w]

/-! ### Steps that fall due (log entry 8) -/

/-- The commands run one after another, while each answers a next state. -/
def execAll : List Instr → State → Out
  | [], s => .next s
  | i :: rest, s =>
    match exec i s with
    | .next t => execAll rest t
    | .fault f => .fault f
    | .refused r => .refused r

/-- The rows of the steps that fall due, in the order in which they are taken where none of them was sent. -/
def dueSteps : List Instr :=
  [.mapSwitch] ++ (List.finRange 16).map .answerTimerExpiry ++ (List.finRange 16).map .probeTimerExpiry ++
    [.refreshTimerExpiry] ++ (List.finRange 16).map .drainCompletion

/-- The highway events before which the steps that are due are taken: those that begin or lose a frame or begin a
slot. -/
def frameEvents (slot : Slot) (line : SlotBits) (bit : Nat) : List Instr :=
  [.candidateHeader line, .syncMiss, .holdoverMiss, .misplacedPulse bit, .pulseAtExpectedBit,
    .followerHeaderSlot line, .masterHeaderSlot line, .txdataOffer slot, .txcontrolOffer slot,
    .rxdataWord slot line, .rxcontrolWord slot line, .unusedSlotWord slot line]

/-- The other highway events: a pulse seen in acquisition, where no frame runs, and the report that ends a slot whose
offer took the steps that were due. They take none. -/
def otherEvents (line : SlotBits) (clock : Nat) : List Instr :=
  [.acquirePulse clock, .txdataReport line, .txcontrolReport line]

/-! ### 05 Table 24 -/

/-- The link state that a matched control word leads to, by the state found and whether the TX Message List is
empty. -/
def linkAfter (st : LinkState) (op : Opcode) (listEmpty : Bool) : LinkState :=
  match op, st with
  | .open_, .listen | .open_, .opening => .opened
  | .open_, .drain | .open_, .closeWait | .open_, .yield => .closed
  | .openAck, .opening => .opened
  | .close, .opened => if listEmpty then .closed else .yield
  | .close, .drain => .yield
  | .closeAck, .closeWait => .closed
  | .reset, .opening => .fault
  | .reset, .opened | .reset, .drain | .reset, .closeWait | .reset, .yield => .closed
  | _, st => st

/-- The reply that a matched control word draws. -/
def replyTo (st : LinkState) (op : Opcode) (listEmpty : Bool) : Option Opcode :=
  match op, st with
  | .open_, .listen | .open_, .opening | .open_, .opened => some .openAck
  | .open_, _ => some .reset
  | .openAck, .closed => some .reset
  | .close, .closed | .close, .closeWait => some .closeAck
  | .close, .listen | .close, .opening | .close, .fault => some .reset
  | .close, .opened => if listEmpty then some .closeAck else none
  | _, _ => none

/-- The cause that a matched control word writes, if its move names one (03 R48). -/
def causeAfter (st : LinkState) (op : Opcode) (listEmpty : Bool) : Option Cause :=
  match op, st with
  | .open_, .drain | .open_, .closeWait | .open_, .yield => some .peerReset
  | .close, .opened => if listEmpty then some .closed else none
  | .closeAck, .closeWait => some .closed
  | .reset, .opening => some .refused
  | .reset, .opened | .reset, .drain | .reset, .closeWait | .reset, .yield => some .peerReset
  | _, _ => none

end Sys2Proof.Machine
end

