-- ==== Sys2Proof/Certificates/Slice0/Obligations.lean ====
section
/-! DEFINITION. The statements about the part. Numbers R<n> are the rules of spec/. `State.evaluate` hands the level
conditions to the Event Unit and evaluates CHSUM and INT#, as every command ends (log entry 10); what it gives and what
it leaves alone is `Obligations.EventUnitFollowsItsInputs`. -/

open Sys2Proof Sys2Proof.Machine

/-! ### The queue, resets, results -/

/-- 95 first line: a command is one whole step. The second clause is the model's choice (log entry 2). -/
def Obligations.StepRunsFrontCommand : Prop :=
  (∀ (c : Instr) (rest : List Instr) (s : State), s.pending = c :: rest →
    step s = exec c { s with pending := rest }) ∧
  ∀ s : State, s.pending = [] → step s = .next s

/-- R176: RESET# asserted puts every block at its reset value and holds it there, the part drives no line and INT# is not
asserted; released, the part stands in that state. The reset values that the spec does not give are the model's own (log
entries 3, 12, 14 and 29), and so is that the queue survives (log entries 13 and 26). -/
def Obligations.ResetPinHoldsThePart : Prop :=
  (∀ s : State, exec (.resetPin true) s = .next { State.reset with resetPin := true, pending := s.pending }) ∧
  (∀ s : State, exec (.resetPin false) s = .next { s with resetPin := false }) ∧
  (∀ (c : Instr) (s : State), s.resetPin = true → (∀ b, c ≠ .resetPin b) → exec c s = .next s) ∧
  ∀ q : List Instr,
    State.drivesClock { State.reset with resetPin := true, pending := q } = false ∧
    State.drivenWord { State.reset with resetPin := true, pending := q } = none ∧
    State.reset.evu.intAsserted = false

/-- R175: SOFTRESET keeps the configuration and returns everything else to its reset value, with result Done. The
Buffer Memory's contents stay (R42). The model's own: the last word read stays (log entry 14), the queue stays (log entry
26), and the count of bit clocks and `hsyncBit` return to 0 and none (log entries 12 and 29). -/
def Obligations.SoftResetKeepsConfiguration : Prop :=
  ∀ s : State, s.resetPin = false → ∃ t, exec .softreset s = .next t ∧
    t.hwi = { Highway.reset with role := s.hwi.role, station := s.hwi.station, lengthCode := s.hwi.lengthCode,
                                 divider := s.hwi.divider } ∧
    t.map = { SlotMap.reset with bankA := s.map.bankA, bankB := s.map.bankB, active := s.map.active } ∧
    t.memory = s.memory ∧
    (∀ c : Chan, t.chan c = { Channel.reset with config := (s.chan c).config, txRegion := (s.chan c).txRegion,
                                                 rxRegion := (s.chan c).rxRegion }) ∧
    t.lnk = { LinkControl.reset with refreshInterval := s.lnk.refreshInterval, probeDelay := s.lnk.probeDelay,
                                     answerTimeout := s.lnk.answerTimeout, retryCount := s.lnk.retryCount } ∧
    t.cq = { Completions.reset with threshold := s.cq.threshold } ∧
    t.evu.latches = 0 ∧ t.evu.enables = s.evu.enables ∧ EventsFollow t ∧
    t.host = { HostPort.reset with readData := s.host.readData } ∧
    t.resetPin = false ∧ t.pending = s.pending

/-- R168, R169, R173: a channel command never touches the device result, a refused write never touches the channel result and
leaves WrongState or BadConfig, an unlisted code leaves BadConfig, and no other command writes either, but the resets. No
command touches the queue of waiting commands, which the spec does not have: that RESET_PIN and SOFTRESET leave it as it is
is the model's own choice (log entry 26). -/
def Obligations.ResultsBelongToTheirCommands : Prop :=
  ∀ (c : Instr) (s t : State), exec c s = .next t →
    t.pending = s.pending ∧
    (t.host.channelResult ≠ s.host.channelResult →
      c ∈ channelCommands ∨ (∃ w, c = .unknownCommandCode .channel w ∧ t.host.channelResult = .badConfig) ∨
        c = .softreset ∨ c = .resetPin true) ∧
    (t.host.deviceResult ≠ s.host.deviceResult →
      c ∈ deviceCommands ∨ (∃ w, c = .unknownCommandCode .device w ∧ t.host.deviceResult = .badConfig) ∨
        (∃ w, c ∈ refusableWrites w ∧
          (t.host.deviceResult = .wrongState ∨ t.host.deviceResult = .badConfig)) ∨ c = .resetPin true)

/-! ### Invariants -/

/-- The state after RESET# meets every invariant stated below. -/
def Obligations.ResetMeetsTheInvariants : Prop :=
  EventsFollow State.reset ∧ Memory.wf State.reset.memory = true ∧ ReservationsBalance State.reset ∧
  CreditsBounded State.reset ∧ LineAgrees State.reset ∧ RegionsApart State.reset ∧ QueueInOrder State.reset ∧
  PlanValid State.reset ∧ TimersFollowLinks State.reset ∧ SendingSidesSound State.reset ∧
  RecordsInOrder State.reset ∧ LineInService State.reset

/-- R158, R162 to R164: after every step the level values, CHSUM and INT# are what their inputs give; and the
evaluation that ends a command changes nothing else. That it ends every command is read by inference (log entry 10), and
that it ends a taken Region Table write is the model's choice (log entry 28). -/
def Obligations.EventUnitFollowsItsInputs : Prop :=
  (∀ s t : State, EventsFollow s → step s = .next t → EventsFollow t) ∧
  ∀ s : State, EventsFollow s.evaluate ∧
    ∃ cq rx tx sum int, s.evaluate =
      { s with evu := { s.evu with cqReady := cq, rxReady := rx, txSpace := tx, summary := sum, intAsserted := int } }

/-- The canonical form of the Buffer Memory, which is the model's own (log entries 3 and 4): every step keeps it. -/
def Obligations.MemoryStaysCanonical : Prop :=
  ∀ s t : State, Memory.wf s.memory = true → step s = .next t → Memory.wf t.memory = true

/-- R148: the entries held plus the messages listed equal the reservations in use, which never exceed 32. -/
def Obligations.ReservationsStayBalanced : Prop :=
  ∀ s t : State, ReservationsBalance s → step s = .next t → ReservationsBalance t

/-- R95, with R73 and R97: the two credit bounds of every channel, and every total 0 outside the connected states of
credit channels. The invariant on the word on the line (R114, R122) is what the proof needs beside it. -/
def Obligations.CreditBoundsHold : Prop :=
  ∀ s t : State, CreditsBounded s → LineAgrees s → step s = .next t → CreditsBounded t ∧ LineAgrees t

/-- R46: the regions of channels not in CLOSED lie inside the memory and overlap no other such region. -/
def Obligations.LiveRegionsStayApart : Prop :=
  ∀ s t : State, RegionsApart s → step s = .next t → RegionsApart t

/-- R59: never more than one request entry and one response entry for any channel. -/
def Obligations.ControlQueueStaysInOrder : Prop :=
  ∀ s t : State, QueueInOrder s → step s = .next t → QueueInOrder t

/-- R21: the active bank never holds more than one TxControl entry among slots 1 to N − 1. -/
def Obligations.SlotPlanStaysValid : Prop :=
  ∀ s t : State, PlanValid s → step s = .next t → PlanValid t

/-- R70, R73, R107 and Table 14: the timers run in their states and in no other. -/
def Obligations.TimersStayWithTheirStates : Prop :=
  ∀ s t : State, TimersFollowLinks s → step s = .next t → TimersFollowLinks t

/-- R73, R110: a list holds at most 8 messages and is empty in CLOSED and FAULT. -/
def Obligations.SendingSidesStaySound : Prop :=
  ∀ s t : State, SendingSidesSound s → step s = .next t → SendingSidesSound t

/-- R128: only the newest record may be incomplete. -/
def Obligations.RecordsStayInOrder : Prop :=
  ∀ s t : State, RecordsInOrder s → step s = .next t → RecordsInOrder t

/-- R4, R1, R20, R29, R31: the part drives HDAT only in LOCKED or HOLDOVER, in slot 0 only as a Master and otherwise only in
a slot whose active entry is its own; it drives HCLK and HSYNC only as a Master in LOCKED, HCLK as REFCLK divided by
HDIV + 1, HSYNC asserted at bit 0 of slot 0 of the frame and not asserted at every other bit. A map test stands due only for
a pending switch while frames run. -/
def Obligations.TheLineIsDrivenInOwnSlotsOnly : Prop :=
  (∀ s t : State, LineInService s → step s = .next t → LineInService t) ∧
  (∀ s : State, s.drivesClock = true ↔ s.resetPin = false ∧ s.hwi.role = .master ∧ s.hwi.sync = .locked) ∧
  (∀ (s : State) (bit : Nat),
    (s.drivesClock = true → s.clockDivision = some (s.hwi.divider.toNat + 1)) ∧
    (s.drivesClock = true → bit = 0 → s.drivenHsync bit = some true) ∧
    (s.drivesClock = true → bit ≠ 0 → s.drivenHsync bit = some false) ∧
    (s.drivesClock = false → s.clockDivision = none ∧ s.drivenHsync bit = none)) ∧
  ∀ (s : State) (bits : SlotBits), LineInService s → s.drivenWord = some bits →
    (s.hwi.sync = .locked ∨ s.hwi.sync = .holdover) ∧
    ((s.hwi.role = .master ∧ s.hwi.position = .header ∧ bits = slotWord .header s.hwi.frame) ∨
      ∃ n : Slot, 0 < n.val ∧ n.val < s.slots ∧ s.hwi.position = .served n.val ∧
        (s.entryOf n = .txControl ∨ ∃ c, s.entryOf n = .txData c))

/-! ### Rules over all commands -/

/-- R42, R43: only a CDATA write and a word stored from an RxData slot change the Buffer Memory, each one word, at the
store position of the region. -/
def Obligations.OnlyStoresChangeMemory : Prop :=
  ∀ (i : Instr) (s t : State) (a : Nat), Memory.wf s.memory = true → exec i s = .next t → i ≠ .resetPin true →
    Memory.read t.memory a ≠ Memory.read s.memory a →
    (∃ w, i = .cdataWrite w ∧ a = s.selectedChan.txStoreAddr ∧ Memory.read t.memory a = w) ∨
    ∃ n line k p c, i = .rxdataWord n line ∧ receive line = .word k p ∧ s.takeDue.entryOf n = .rxData c ∧
      a = (s.takeDue.chan c).rxStoreAddr ∧ Memory.read t.memory a = p

/-- R47: every change of a link state, but the return to CLOSED at the two resets, leaves StateChange latched. -/
def Obligations.LinkChangesAreReported : Prop :=
  ∀ (i : Instr) (s t : State) (c : Chan), exec i s = .next t → i ≠ .softreset → i ≠ .resetPin true →
    (t.chan c).link.state ≠ (s.chan c).link.state → (t.chan c).latches.getLsbD 0 = true

/-- R17, R18, R50: no counter falls but by a counter read or a reset, and an advance of CheckErrors, Clashes or
HeaderFaults leaves LineError latched, also at 255: a command that would move one of the three from some counter values `v`
advances it from every value. -/
def Obligations.CountersOnlyAdvance : Prop :=
  ∀ (i : Instr) (s t : State), exec i s = .next t → i ≠ .softreset → i ≠ .resetPin true →
    (i ≠ .highwayCounterRead → ∀ k : Fin 9, s.hwi.counters[k].toNat ≤ t.hwi.counters[k].toNat) ∧
    (i ≠ .channelCounterRead → ∀ (c : Chan) (k : Fin 6),
      (s.chan c).counters[k].toNat ≤ (t.chan c).counters[k].toNat) ∧
    (i ≠ .highwayCounterRead → ∀ (v : Vector (BitVec 8) 9) (u : State) (k : Fin 9), k.val < 3 →
      exec i { s with hwi := { s.hwi with counters := v } } = .next u → u.hwi.counters[k] ≠ v[k] →
      t.evu.latches.getLsbD 6 = true)

/-- The model's choice (log entry 8): before a highway event that begins or loses a frame or begins a slot acts, the steps
that are due are taken, which is to run their rows in the order of `dueSteps`; nothing is due then, and with nothing due it
changes nothing. A pulse in acquisition and a report at the end of a slot take none of them. -/
def Obligations.DueStepsComeFirst : Prop :=
  (∀ s : State, 1 ≤ s.lnk.answerTimeout → 1 ≤ s.lnk.probeDelay → s.takeDue.quiet = true) ∧
  (∀ s : State, s.quiet = true → s.takeDue = s) ∧
  (∀ (s : State) (n : Slot) (line : SlotBits) (bit : Nat) (e : Instr), e ∈ frameEvents n line bit →
    1 ≤ s.lnk.answerTimeout → 1 ≤ s.lnk.probeDelay → exec e s ≠ .next s → exec e s = exec e s.takeDue) ∧
  (∀ s : State, s.resetPin = false → execAll dueSteps s = .next s.takeDue.evaluate) ∧
  ∀ (s t : State) (line : SlotBits) (clock : Nat) (e : Instr), e ∈ otherEvents line clock → exec e s = .next t →
    t.map = s.map ∧ t.lnk.refreshCount = s.lnk.refreshCount ∧ t.lnk.queue.length ≤ s.lnk.queue.length ∧
    ∀ c : Chan, (t.chan c).link = (s.chan c).link

/-- The model's choice (log entry 6): a command whose event cannot occur in the state found leaves the part as it is. HSYNC
found at a bit clock that is past is one of them (log entry 29). -/
def Obligations.EventsOutOfPlaceChangeNothing : Prop :=
  ∀ (s : State) (n : Slot) (line : SlotBits) (k : Nat) (w : Word),
    (s.hwi.sync ≠ .acquire ∨ (∃ a, s.hwi.hsyncBit = some a ∧ k ≤ a) → exec (.acquirePulse k) s = .next s) ∧
    (s.hwi.sync ≠ .acquire ∨ s.hwi.candidate = false → exec (.candidateHeader line) s = .next s) ∧
    (s.hwi.role = .master ∨ s.hwi.sync ≠ .locked ∨ s.hwi.betweenSlots = false → exec .syncMiss s = .next s) ∧
    (s.hwi.role = .master ∨ s.hwi.sync ≠ .holdover ∨ s.hwi.betweenSlots = false →
      exec .holdoverMiss s = .next s) ∧
    (s.hwi.followerRuns = false ∨ k = 0 ∨ 20 * s.slots ≤ k ∨
        (∃ a, s.hwi.hsyncBit = some a ∧ s.hwi.frameBit + k ≤ a) →
      exec (.misplacedPulse k) s = .next s) ∧
    (s.hwi.followerRuns = false ∨ s.hwi.betweenSlots = false ∨
        (∃ a, s.hwi.hsyncBit = some a ∧ s.hwi.frameBit + 20 * s.slots ≤ a) →
      exec .pulseAtExpectedBit s = .next s) ∧
    (s.hwi.followerRuns = false ∨
        (s.hwi.position ≠ .header ∧ (s.hwi.betweenSlots = false ∨ s.hwi.sync = .holdover ∨
          ∃ a, s.hwi.hsyncBit = some a ∧ s.hwi.frameBit + 20 * s.slots ≤ a + 1)) →
      exec (.followerHeaderSlot line) s = .next s) ∧
    (s.hwi.masterRuns = false ∨ (s.hwi.position ≠ .header ∧ s.hwi.betweenSlots = false) →
      exec (.masterHeaderSlot line) s = .next s) ∧
    (s.takeDue.slotReady n = false ∨ (∀ c, s.takeDue.entryOf n ≠ .txData c) → exec (.txdataOffer n) s = .next s) ∧
    (s.takeDue.slotReady n = false ∨ s.takeDue.entryOf n ≠ .txControl → exec (.txcontrolOffer n) s = .next s) ∧
    (s.takeDue.slotReady n = false ∨ (∀ c, s.takeDue.entryOf n ≠ .rxData c) →
      exec (.rxdataWord n line) s = .next s) ∧
    (s.takeDue.slotReady n = false ∨ (∀ p, s.takeDue.entryOf n ≠ .rxControl p) →
      exec (.rxcontrolWord n line) s = .next s) ∧
    (s.takeDue.slotReady n = false ∨ s.takeDue.entryOf n ≠ .unused → exec (.unusedSlotWord n line) s = .next s) ∧
    ((∀ bits, s.hwi.line ≠ some ⟨bits, .control⟩) → exec (.txcontrolReport line) s = .next s) ∧
    ((s.hwi.line = none ∨ ∃ bits, s.hwi.line = some ⟨bits, .control⟩) →
      exec (.txdataReport line) s = .next s) ∧
    (s.host.table ≠ 0 → exec (.pendingBankWrite w) s = .next s) ∧
    (s.host.table ≠ 2 → exec (.regionTableWrite w) s = .next s) ∧
    (s.host.table ≠ 3 → exec (.configWordWrite w) s = .next s) ∧
    (s.host.table ≠ 4 → exec .channelCounterRead s = .next s) ∧
    (s.host.table ≠ 5 → exec .highwayCounterRead s = .next s) ∧
    (4 ≤ s.host.table → exec .tableRead s = .next s) ∧
    (s.host.table ≠ 1 → s.host.table ≠ 4 → s.host.table ≠ 5 → exec (.tableWriteIgnored w) s = .next s) ∧
    (1 ≤ (w.extractLsb' 0 4).toNat → (w.extractLsb' 0 4).toNat ≤ 6 →
      exec (.unknownCommandCode .device w) s = .next s) ∧
    (1 ≤ (w.extractLsb' 0 4).toNat → (w.extractLsb' 0 4).toNat ≤ 8 →
      exec (.unknownCommandCode .channel w) s = .next s)

/-! ### Shared operations -/

/-- R3: the part gives every word it sends an even number of ones, a word so sent is received as what it is, every bit
of a received word is read, and a word with one bit wrong has a check error.
Tables 20 and 21: the four fields of a control word come back from its payload, and they are the whole of it. -/
def Obligations.WordFormatsRoundTrip : Prop :=
  ((∀ (k : Kind) (p : Word), onesOf (slotWord k p) % 2 = 0 ∧ receive (slotWord k p) = .word k p) ∧
  (∀ (line : SlotBits) (k : Kind) (p : Word), receive line = .word k p → line = slotWord k p) ∧
  (∀ (k : Kind) (p : Word) (i : Fin 20), receive (slotWord k p ^^^ BitVec.twoPow 20 i.val) = .checkError) ∧
  receive (BitVec.allOnes 20) = .word .idle 0xFFFF) ∧
  ((∀ (st ch : Address) (op : Opcode) (v : BitVec 5),
    ctlStation (controlPayload st ch op v) = st ∧ ctlChannel (controlPayload st ch op v) = ch ∧
    ctlOpcode (controlPayload st ch op v) = op ∧ ctlValue (controlPayload st ch op v) = v) ∧
  ∀ w : Word, controlPayload (ctlStation w) (ctlChannel w) (ctlOpcode w) (ctlValue w) = w)

/-- R60, R61: an entry takes the place of the entry of its channel and class, or joins the tail.
R82: a channel's Probe that stands before its response moves directly behind it, and nothing else moves. That R82 is followed
there against the order of R59 and R61 is the model's choice (log entry 30). -/
def Obligations.QueuedEntryTakesItsPlace : Prop :=
  (∀ (q : List CtlEntry) (e : CtlEntry), e.chosen = false → (q.map (fun x => (x.chan, x.cls))).Nodup →
    ((∀ x ∈ q, (x.chan, x.cls) ≠ (e.chan, e.cls)) → enqueue q e = q ++ [e]) ∧
    ∀ (before after : List CtlEntry) (old : CtlEntry), q = before ++ old :: after →
      (old.chan, old.cls) = (e.chan, e.cls) →
      ∃ x, enqueue q e = before ++ x :: after ∧ x.chan = e.chan ∧ x.cls = e.cls ∧ x.opcode = e.opcode ∧
        x.destStation = e.destStation ∧ x.destChannel = e.destChannel ∧
        ((x.opcode, x.destStation, x.destChannel) ≠ (old.opcode, old.destStation, old.destChannel) →
          x.chosen = false)) ∧
  ∀ (q : List CtlEntry) (c : Chan), (q.map (fun x => (x.chan, x.cls))).Nodup →
    (∀ (before mid after : List CtlEntry) (p r : CtlEntry), q = before ++ p :: mid ++ r :: after →
      (p.chan, p.cls, p.opcode) = (c, .request, .probe) → (r.chan, r.cls) = (c, .response) →
      deferProbe c q = before ++ mid ++ r :: p :: after) ∧
    ((∀ (before mid after : List CtlEntry) (p r : CtlEntry), q = before ++ p :: mid ++ r :: after →
      ¬ ((p.chan, p.cls, p.opcode) = (c, .request, .probe) ∧ (r.chan, r.cls) = (c, .response))) →
      deferProbe c q = q)

/-- R46: the five tests of the validation of a channel's regions. -/
def Obligations.RegionValidationMakesFiveTests : Prop :=
  ∀ (s : State) (c : Chan) (ch : Channel), s.chan c = ch →
    (s.regionsValid c = true ↔
      (if ch.config.mode = .credit then ch.txRegion.size ≠ 0 ∧ ch.rxRegion.size ≠ 0
        else ch.txRegion.size ≠ 0 ∨ ch.rxRegion.size ≠ 0) ∧
      (ch.txRegion.size ≠ 0 → ch.txRegion.base + ch.txRegion.size ≤ 256) ∧
      (ch.rxRegion.size ≠ 0 → ch.rxRegion.base + ch.rxRegion.size ≤ 256) ∧
      ch.txRegion.overlaps ch.rxRegion = false ∧
      ∀ d : Chan, d ≠ c → ∀ r ∈ [ch.txRegion, ch.rxRegion],
        ((s.chan d).link.state ≠ .closed →
          r.overlaps (s.chan d).txRegion = false ∧ r.overlaps (s.chan d).rxRegion = false) ∧
        ((s.chan d).link.state = .closed →
          (0 < (s.chan d).tx.held → r.overlaps (s.chan d).txRegion = false) ∧
          (0 < (s.chan d).rx.held → r.overlaps (s.chan d).rxRegion = false))) ∧
    ∀ r q : Region, r.overlaps q = true ↔
      ∃ a : Nat, 16 * r.base ≤ a ∧ a < 16 * (r.base + r.size) ∧ 16 * q.base ≤ a ∧ a < 16 * (q.base + q.size)

/-- R34: what START does to the banks. Only under a new N is a bank examined, and in it every TxControl entry among 1
to N − 1 but the lowest-numbered becomes Unused. -/
def Obligations.StartRewritesSurplusControl : Prop :=
  ∀ (m : SlotMap) (n : Nat),
    (m.startWith n).checkedN = n ∧ (m.startWith n).active = m.active ∧ (m.startWith n).target = m.target ∧
    (m.startWith n).dueFrame = m.dueFrame ∧
    (n = m.checkedN → (m.startWith n).bankA = m.bankA ∧ (m.startWith n).bankB = m.bankB) ∧
    (n ≠ m.checkedN →
      (∀ i : Slot,
        ((0 < i.val ∧ i.val < n ∧ m.activeBank[i] = .txControl ∧
            ∃ j : Slot, 0 < j.val ∧ j.val < i.val ∧ m.activeBank[j] = .txControl) →
          (m.startWith n).activeBank[i] = .unused) ∧
        (¬ (0 < i.val ∧ i.val < n ∧ m.activeBank[i] = .txControl ∧
            ∃ j : Slot, 0 < j.val ∧ j.val < i.val ∧ m.activeBank[j] = .txControl) →
          (m.startWith n).activeBank[i] = m.activeBank[i])) ∧
      (m.target = none → (m.startWith n).pendingBank = m.pendingBank) ∧
      (m.target ≠ none → ∀ i : Slot,
        ((0 < i.val ∧ i.val < n ∧ m.pendingBank[i] = .txControl ∧
            ∃ j : Slot, 0 < j.val ∧ j.val < i.val ∧ m.pendingBank[j] = .txControl) →
          (m.startWith n).pendingBank[i] = .unused) ∧
        (¬ (0 < i.val ∧ i.val < n ∧ m.pendingBank[i] = .txControl ∧
            ∃ j : Slot, 0 < j.val ∧ j.val < i.val ∧ m.pendingBank[j] = .txControl) →
          (m.startWith n).pendingBank[i] = m.pendingBank[i])))

/-- R74, R82: entry into OPEN, and a peer restart of a credit channel. A credit channel starts from the zero state with
a grant of the room it has, both marks set and its probe timer at 0.
R72, R82: a peer restart flushes, closes the open record Aborted with its last frame invalid and leaves the complete records,
zeroes, queues OpenAck with a Probe behind it (log entry 30), and starts a new epoch. The TX free position after its flush is read from R42 (log entry 17). -/
def Obligations.NewEpochStartsFromZero : Prop :=
  (∀ (s : State) (c : Chan) (ch : Channel), s.chan c = ch → ch.link.state ≠ .opened →
    (ch.config.mode = .stream →
      s.enterOpen c =
        ({ s with lnk := { s.lnk with
            queue := s.lnk.queue.filter (fun e => !e.isFor c .request) } } : State).setChan c
          { ch with link := { ch.link with state := .opened, answerTimer := none },
                    latches := ch.latches ||| BitVec.twoPow 4 0 }) ∧
    (ch.config.mode = .credit →
      s.enterOpen c =
        ({ s with lnk := { s.lnk with
            queue := s.lnk.queue.filter (fun e => !e.isFor c .request) } } : State).setChan c
          { ch with
            link := { ch.link with state := .opened, answerTimer := none }
            latches := ch.latches ||| BitVec.twoPow 4 0
            probe := some 0
            wordMark := { set := true, chosen := false }
            msgMark := { set := true, chosen := false }
            rx := { ch.rx with discard := false }
            credits := { Credits.zero with
              wordGranted := BitVec.ofNat 5 (min (ch.rxRegion.capacity - ch.rx.held) 31)
              msgGranted := BitVec.ofNat 5 (16 - ch.rx.records.length) } })) ∧
  (∀ (s : State) (c : Chan) (ch : Channel), s.chan c = ch → ch.config.mode = .credit → ch.link.state = .opened →
    ∃ ch' : Channel,
      s.peerRestart c =
        ({ s with
          cq := { s.cq with
            entries := s.cq.entries ++ ch.tx.messages.map (fun m => m.entry c .peerReset s.hwi.frame) }
          lnk := { s.lnk with
            queue := deferProbe c (enqueue s.lnk.queue
              ⟨c, .response, .openAck, ch.config.peerStation, ch.config.peerChannel, false⟩) } } : State).setChan
          c ch' ∧
      ch'.config = ch.config ∧ ch'.txRegion = ch.txRegion ∧ ch'.rxRegion = ch.rxRegion ∧ ch'.link = ch.link ∧
      ch'.counters = ch.counters ∧ ch'.probe = some 0 ∧
      ch'.tx = { ch.tx with free := if ch.tx.held = 0 then ch.tx.free else 0, messages := [], composing := 0,
                            spoiled := false, onLine := false } ∧
      ch'.rx.discard = false ∧ ch'.rx.openRecord = none ∧ ch'.rx.held = ch.rx.held ∧
      ch'.rx.records.length = ch.rx.records.length ∧ ch'.rx.free = ch.rx.free ∧
      (ch.rx.openRecord = none → ch'.rx.records = ch.rx.records) ∧
      (∀ r, ch.rx.openRecord = some r →
        ch'.rx.records = ch.rx.records.dropLast ++
          [{ r with complete := true, flags := { r.flags with aborted := true }, lastFrame := none }]) ∧
      ch'.credits = { Credits.zero with
        wordGranted := BitVec.ofNat 5 (min (ch.rxRegion.capacity - ch.rx.held) 31)
        msgGranted := BitVec.ofNat 5 (16 - ch.rx.records.length) } ∧
      (ch'.wordMark.set = true ↔ ch.rx.held < ch.rxRegion.capacity) ∧
      (ch'.msgMark.set = true ↔ ch.rx.records.length < 16) ∧
      ch'.latches = (if ch.rx.openRecord.isSome then ch.latches ||| BitVec.twoPow 4 3 else ch.latches))

/-- R71 to R73, R150: the clear-down of a move to CLOSED. Every listed message becomes one entry in list order, the open
record is closed Aborted, totals and marks are cleared, timers stop, and a Probe or Close request is withdrawn. The TX free
position after the flush is read from R42 (log entry 17). -/
def Obligations.ClearDownEmptiesTheChannel : Prop :=
  ∀ (s : State) (c : Chan) (cause : Cause) (ch : Channel), s.chan c = ch → ch.link.state ≠ .closed →
    ∃ ch' : Channel,
      s.closeConnected c cause =
        ({ s with
          cq := { s.cq with
            entries := s.cq.entries ++
              (if ch.config.mode = .credit then
                ch.tx.messages.map (fun m =>
                  m.entry c (if cause = .peerReset then .peerReset else .flushed) s.hwi.frame)
              else []) }
          lnk := { s.lnk with
            queue := s.lnk.queue.filter (fun e =>
              !(e.isFor c .request && (e.opcode == .probe || e.opcode == .close))) } } : State).setChan c ch' ∧
      ch'.config = ch.config ∧ ch'.txRegion = ch.txRegion ∧ ch'.rxRegion = ch.rxRegion ∧
      ch'.counters = ch.counters ∧
      ch'.link = { ch.link with state := .closed, cause := cause, answerTimer := none } ∧ ch'.probe = none ∧
      ch'.wordMark = { set := false, chosen := false } ∧ ch'.msgMark = { set := false, chosen := false } ∧
      (ch.config.mode = .credit → ch'.credits = Credits.zero ∧
        ch'.tx = { ch.tx with free := if ch.tx.held = 0 then ch.tx.free else 0, messages := [], composing := 0,
                              spoiled := false, onLine := false }) ∧
      (ch.config.mode = .stream → ch'.credits = ch.credits ∧
        ch'.tx = { ch.tx with free := if ch.tx.held = 0 then ch.tx.free else 0, fifo := [], openMessage := false,
                              inProgress := false, pendingEnd := false, restartMark := false, onLine := false }) ∧
      ch'.rx.discard = false ∧ ch'.rx.free = ch.rx.free ∧
      (ch.rx.openRecord = none → ch'.rx.records = ch.rx.records ∧
        ch'.latches = ch.latches ||| BitVec.twoPow 4 0) ∧
      ∀ r, ch.rx.openRecord = some r →
        ch'.rx.records = ch.rx.records.dropLast ++
          [{ r with complete := true, flags := { r.flags with aborted := true }, lastFrame := none }] ∧
        ch'.latches = ch.latches ||| BitVec.twoPow 4 3 ||| BitVec.twoPow 4 0

/-- R98, R99: the credit account of an arriving data word on a credit channel in a connected state. A word without
credit is a violation that changes no total; any other word is counted before it is stored or discarded, and the
grant that follows leaves Ow and Om at the room there is.
R99, R100: what a violation does to the open record and the discard state by its kind, and what the discard state does to
a counted word.
R96, R101, R131: the grant, and the Damaged mark of a check error. -/
def Obligations.ArrivingWordsAreCounted : Prop :=
  (∀ (ch ch' : Channel) (frame : Word) (k : Kind) (stored : Bool), k.isData = true → ch.creditConnected = true →
    ch.creditWord frame k = (ch', stored) →
    ((ch.credits.outstandingWords = 0 ∨ (k.starts = true ∧ ch.credits.outstandingMsgs = 0)) →
      stored = false ∧ ch'.credits = ch.credits ∧ ch'.rx.held = ch.rx.held ∧
      ch'.counters = ch.counters.set 4 (advance ch.counters[4]) ∧ ch'.latches.getLsbD 3 = true) ∧
    (¬ (ch.credits.outstandingWords = 0 ∨ (k.starts = true ∧ ch.credits.outstandingMsgs = 0)) →
      ch.rx.held + ch.credits.outstandingWords ≤ ch.rxRegion.capacity →
      ch.rx.records.length + ch.credits.outstandingMsgs ≤ 16 →
      ch'.credits.wordCounted = ch.credits.wordCounted + 1 ∧
      ch'.credits.msgCounted = ch.credits.msgCounted + (if k.starts then 1 else 0) ∧
      ch'.credits.outstandingWords = min (ch.rxRegion.capacity - ch'.rx.held) 31 ∧
      ch'.credits.outstandingMsgs = 16 - ch'.rx.records.length ∧
      ch'.credits.wordHeard = ch.credits.wordHeard ∧ ch'.credits.msgHeard = ch.credits.msgHeard ∧
      ch'.credits.wordUsed = ch.credits.wordUsed ∧ ch'.credits.msgUsed = ch.credits.msgUsed ∧
      ch'.rx.held = ch.rx.held + (if stored then 1 else 0))) ∧
  (∀ (ch ch' : Channel) (frame : Word) (k : Kind) (stored : Bool), k.isData = true → ch.creditConnected = true →
    ch.creditWord frame k = (ch', stored) →
    ((ch.credits.outstandingWords = 0 ∨ (k.starts = true ∧ ch.credits.outstandingMsgs = 0)) →
      ∃ records, ch' = { ch with
          counters := ch.counters.set 4 (advance ch.counters[4])
          latches := ch.latches ||| BitVec.twoPow 4 3
          rx := { ch.rx with
            records := records
            discard := if k = .middle then ch.rx.discard else k == .first } } ∧
        (ch.rx.openRecord = none → records = ch.rx.records) ∧
        ∀ r, ch.rx.openRecord = some r → records = ch.rx.records.dropLast ++
          [if k.starts then { r with complete := true, flags := { r.flags with broken := true }, lastFrame := none }
          else if k = .last then
            { r with complete := true, flags := { r.flags with damaged := true }, lastFrame := some frame }
          else { r with flags := { r.flags with damaged := true } }]) ∧
    (¬ (ch.credits.outstandingWords = 0 ∨ (k.starts = true ∧ ch.credits.outstandingMsgs = 0)) →
      (ch.rx.discard = true → k.starts = false →
        stored = false ∧ ch'.rx = { ch.rx with discard := !(k == .last) } ∧ ch'.counters = ch.counters ∧
        ch'.latches = ch.latches) ∧
      (ch.rx.discard = true → k.starts = true →
        ({ ch with rx := { ch.rx with discard := false } } : Channel).creditWord frame k = (ch', stored)) ∧
      (ch.rx.discard = false →
        stored = (ch.assemble frame k).2 ∧ ch'.rx = (ch.assemble frame k).1.rx ∧
        ch'.counters = (ch.assemble frame k).1.counters ∧ ch'.latches = (ch.assemble frame k).1.latches))) ∧
  ∀ ch : Channel,
    (ch.rx.openRecord = none → ch.damageOpen = ch) ∧
    (∀ r, ch.rx.openRecord = some r → ch.damageOpen = { ch with rx := { ch.rx with
      records := ch.rx.records.dropLast ++ [{ r with flags := { r.flags with damaged := true } }] } }) ∧
    (ch.creditConnected = false → ch.grant = ch) ∧
    (ch.creditConnected = true → ∀ gw gm : Nat,
      gw = min (ch.rxRegion.capacity - ch.rx.held - ch.credits.outstandingWords) (31 - ch.credits.outstandingWords) →
      gm = 16 - ch.rx.records.length - ch.credits.outstandingMsgs →
      ch.grant = { ch with
        credits := { ch.credits with
          wordGranted := ch.credits.wordGranted + BitVec.ofNat 5 gw
          msgGranted := ch.credits.msgGranted + BitVec.ofNat 5 gm }
        wordMark := if gw = 0 then ch.wordMark else { set := true, chosen := false }
        msgMark := if gm = 0 then ch.msgMark else { set := true, chosen := false } })

/-- R132 to R137: record assembly of a data word, by kind, open record and room; it changes the records, the discard
state, the counters and the latches, and nothing else. -/
def Obligations.AssemblyBuildsRecords : Prop :=
  ∀ (ch ch' : Channel) (frame : Word) (stored : Bool),
    (∀ k, ch.assemble frame k = (ch', stored) →
      ch' = { ch with
        rx := { ch.rx with records := ch'.rx.records, discard := ch'.rx.discard }
        counters := ch'.counters
        latches := ch'.latches } ∧
      (ch'.rx.discard ≠ ch.rx.discard →
        k = .first ∧ ch.config.mode = .stream ∧ 16 ≤ ch.rx.records.length)) ∧
    (∀ k, (k = .middle ∨ k = .last) → ch.rx.openRecord = none → ch.assemble frame k = (ch', stored) →
      stored = false ∧ ch'.rx = ch.rx ∧ ch'.counters = ch.counters.set 3 (advance ch.counters[3]) ∧
      ch'.latches = ch.latches ||| BitVec.twoPow 4 3) ∧
    (∀ r, ch.rx.openRecord = some r → ch.assemble frame .middle = (ch', stored) →
      (ch.config.maxLength ≤ r.length →
        stored = false ∧ ch'.counters = ch.counters ∧ ch'.latches = ch.latches ∧
        ch'.rx.records = ch.rx.records.dropLast ++ [{ r with flags := { r.flags with truncated := true } }]) ∧
      (r.length < ch.config.maxLength → ch.rx.held < ch.rxRegion.capacity →
        stored = true ∧ ch'.counters = ch.counters ∧ ch'.latches = ch.latches ∧
        ch'.rx.records = ch.rx.records.dropLast ++ [{ r with length := r.length + 1 }]) ∧
      (r.length < ch.config.maxLength → ch.rxRegion.capacity ≤ ch.rx.held → ch.config.mode = .stream →
        stored = false ∧ ch'.counters = ch.counters.set 1 (advance ch.counters[1]) ∧ ch'.latches = ch.latches ∧
        ch'.rx.records = ch.rx.records.dropLast ++ [{ r with flags := { r.flags with overrun := true } }])) ∧
    (∀ r, ch.rx.openRecord = some r → ch.assemble frame .last = (ch', stored) →
      r.length < ch.config.maxLength → ch.rx.held < ch.rxRegion.capacity →
      stored = true ∧ ch'.counters = ch.counters ∧
      ch'.rx.records = ch.rx.records.dropLast ++
        [{ r with length := r.length + 1, complete := true, lastFrame := some frame }] ∧
      ch'.latches = (if r.flags.any then ch.latches ||| BitVec.twoPow 4 3 else ch.latches)) ∧
    (∀ r, ch.rx.openRecord = some r → ch.assemble frame .last = (ch', stored) →
      (ch.config.maxLength ≤ r.length →
        stored = false ∧ ch'.counters = ch.counters ∧ ch'.latches = ch.latches ||| BitVec.twoPow 4 3 ∧
        ch'.rx.records = ch.rx.records.dropLast ++
          [{ r with complete := true, flags := { r.flags with truncated := true }, lastFrame := some frame }]) ∧
      (r.length < ch.config.maxLength → ch.rxRegion.capacity ≤ ch.rx.held → ch.config.mode = .stream →
        stored = false ∧ ch'.counters = ch.counters.set 1 (advance ch.counters[1]) ∧
        ch'.latches = ch.latches ||| BitVec.twoPow 4 3 ∧
        ch'.rx.records = ch.rx.records.dropLast ++
          [{ r with complete := true, flags := { r.flags with overrun := true }, lastFrame := some frame }])) ∧
    (∀ k, k.starts = true → ch.assemble frame k = (ch', stored) → ch.rx.records.length < 16 →
      ch.rxRegion.capacity ≤ ch.rx.held → ch.config.mode = .stream →
      stored = false ∧ ch'.counters = ch.counters.set 1 (advance ch.counters[1]) ∧
      ch'.latches =
        (if ch.rx.openRecord.isSome ∨ k = .only then ch.latches ||| BitVec.twoPow 4 3 else ch.latches) ∧
      ch'.rx.records =
        (match ch.rx.openRecord with
          | none => ch.rx.records
          | some r => ch.rx.records.dropLast ++
              [{ r with complete := true, flags := { r.flags with broken := true }, lastFrame := none }]) ++
        [{ length := 0, complete := k == .only, flags := { RxFlags.clear with overrun := true }, firstFrame := frame,
           lastFrame := if k = .only then some frame else none, readPos := 0 }]) ∧
    (∀ k, k.starts = true → ch.assemble frame k = (ch', stored) → ch.rx.records.length < 16 →
      ch.rx.held < ch.rxRegion.capacity →
      stored = true ∧ ch'.counters = ch.counters ∧
      ch'.latches = (if ch.rx.openRecord.isSome then ch.latches ||| BitVec.twoPow 4 3 else ch.latches) ∧
      ch'.rx.records =
        (match ch.rx.openRecord with
          | none => ch.rx.records
          | some r => ch.rx.records.dropLast ++
              [{ r with complete := true, flags := { r.flags with broken := true }, lastFrame := none }]) ++
        [{ length := 1, complete := k == .only, flags := RxFlags.clear, firstFrame := frame,
           lastFrame := if k = .only then some frame else none, readPos := 0 }]) ∧
    ∀ k, k.starts = true → ch.assemble frame k = (ch', stored) → ch.config.mode = .stream →
      16 ≤ ch.rx.records.length →
      stored = false ∧ ch'.counters = ch.counters.set 2 (advance ch.counters[2]) ∧
      ch'.latches = ch.latches ||| BitVec.twoPow 4 3 ∧ ch'.rx.held = ch.rx.held ∧ ch'.rx.openRecord = none ∧
      ch'.rx.records.length = ch.rx.records.length ∧ ch'.rx.discard = (ch.rx.discard || k == .first) ∧
      ch'.rx.records =
        (match ch.rx.openRecord with
          | none => ch.rx.records
          | some r => ch.rx.records.dropLast ++
              [{ r with complete := true, flags := { r.flags with broken := true }, lastFrame := none }])

/-! ### Device commands -/

/-- R10, R34: START. That a Master's frame 0 begins at bit clock 0 (`frameBit := 0`) is the model's own choice (log entry 12);
no rule numbers the bit clocks. So is `hsyncBit := none` for a Follower: the bit clock before the first one watched counts as
one with HSYNC not asserted (log entry 29). -/
def Obligations.StartStartsTheHighway : Prop :=
  ∀ s : State, s.resetPin = false →
    (s.hwi.sync = .off → s.hwi.role = .master →
      exec .start s = .next (State.evaluate { s with
        map := s.map.startWith (8 * 2 ^ s.hwi.lengthCode.toNat)
        host := { s.host with deviceResult := .done }
        hwi := { s.hwi with sync := .locked, frame := 0, position := .header, frameBit := 0, lastPulse := none,
                            candidate := false }
        evu := { s.evu with latches := s.evu.latches ||| BitVec.twoPow 7 0 } })) ∧
    (s.hwi.sync = .off → s.hwi.role = .follower →
      exec .start s = .next (State.evaluate { s with
        map := s.map.startWith (8 * 2 ^ s.hwi.lengthCode.toNat)
        host := { s.host with deviceResult := .done }
        hwi := { s.hwi with sync := .acquire, lastPulse := none, hsyncBit := none, candidate := false } })) ∧
    (s.hwi.sync ≠ .off →
      exec .start s = .next (State.evaluate { s with host := { s.host with deviceResult := .wrongState } }))

/-- R11, R16: STOP. From LOCKED or HOLDOVER it is a highway loss that raises no event of the Highway Interface. That the
steps the last frame start made due are taken before it is the model's choice (log entry 8); after it no map test is
due. -/
def Obligations.StopStopsTheHighway : Prop :=
  ∀ s : State, s.resetPin = false →
    (s.hwi.sync = .off →
      exec .stop s = .next (State.evaluate { s with host := { s.host with deviceResult := .nothing } })) ∧
    (s.hwi.sync = .acquire →
      exec .stop s = .next (State.evaluate { s with
        host := { s.host with deviceResult := .done }
        hwi := { s.hwi with sync := .off, lastPulse := none, candidate := false } })) ∧
    ((s.hwi.sync = .locked ∨ s.hwi.sync = .holdover) →
      ∃ t, exec .stop s = .next t ∧ LossTo .off none s.takeDue t ∧ t.host = { s.host with deviceResult := .done } ∧
        t.evu.latches = s.takeDue.evu.latches ∧ t.map.dueFrame = none ∧ (s.quiet = true → s.takeDue = s))

/-- R1, R13 to R16: the losses by HSYNC pulses and by a Master clash. A second missing pulse records no pulse, a misplaced
pulse, HSYNC found asserted there after a bit clock at which it was not, becomes the last pulse seen; SyncMisses advances and LockLost is raised. A Master clash in slot 0 counts in Clashes,
raises LineError and MasterConflict and leads to OFF. That bit clocks are counted without bound, the misplaced pulse's among
them, is the model's choice (log entry 12). -/
def Obligations.HighwayLossIsHandedToTheBlocks : Prop :=
  ∀ s : State, s.resetPin = false → s.quiet = true →
    (s.hwi.role = .follower → s.hwi.sync = .holdover → s.hwi.betweenSlots = true →
      ∃ t, exec .holdoverMiss s = .next t ∧
        LossTo .acquire none
          { s with hwi := { s.hwi with counters := s.hwi.counters.set 3 (advance s.hwi.counters[3]) } } t ∧
        t.host = s.host ∧ t.evu.latches = s.evu.latches ||| BitVec.twoPow 7 1) ∧
    (∀ bit : Nat, s.hwi.role = .follower → (s.hwi.sync = .locked ∨ s.hwi.sync = .holdover) → 1 ≤ bit →
      bit < 20 * s.slots → (∀ a, s.hwi.hsyncBit = some a → a + 1 < s.hwi.frameBit + bit) →
      ∃ t, exec (.misplacedPulse bit) s = .next t ∧
        LossTo .acquire (some (s.hwi.frameBit + bit))
          { s with hwi := { s.hwi with hsyncBit := some (s.hwi.frameBit + bit),
                                       counters := s.hwi.counters.set 3 (advance s.hwi.counters[3]) } } t ∧
        t.host = s.host ∧ t.evu.latches = s.evu.latches ||| BitVec.twoPow 7 1) ∧
    (∀ line : SlotBits, s.hwi.role = .master → s.hwi.sync = .locked → s.hwi.position = .header →
      slotWord .header s.hwi.frame &&& ~~~line ≠ 0 →
      ∃ t, exec (.masterHeaderSlot line) s = .next t ∧
        LossTo .off none
          { s with hwi := { s.hwi with counters := s.hwi.counters.set 1 (advance s.hwi.counters[1]) } } t ∧
        t.host = s.host ∧ t.evu.latches = s.evu.latches ||| BitVec.twoPow 7 6 ||| BitVec.twoPow 7 2)

/-- R27, R28, R30: SWITCH, in its order of tests, and what a swap does to the banks.
R29: the frame-start test, by D = (target − F) mod 65536.
That MAP_SWITCH with no test due changes nothing, and that a test stands due until the command or the next highway event
takes it, is the model's choice (log entry 8). -/
def Obligations.MapSwitches : Prop :=
  ((∀ m : SlotMap,
    m.swap.active = m.active.other ∧ m.swap.bankA = m.pendingBank ∧ m.swap.bankB = m.pendingBank ∧
    m.swap.target = none ∧ m.swap.checkedN = m.checkedN ∧ m.swap.dueFrame = m.dueFrame) ∧
  ∀ s : State, s.resetPin = false →
    (s.map.target ≠ none →
      exec .switch s = .next (State.evaluate { s with host := { s.host with deviceResult := .wrongState } })) ∧
    (s.map.target = none → 2 ≤ txControlCount s.map.pendingBank s.slots →
      exec .switch s = .next (State.evaluate { s with host := { s.host with deviceResult := .badConfig } })) ∧
    (s.map.target = none → txControlCount s.map.pendingBank s.slots ≤ 1 → s.hwi.sync = .off →
      exec .switch s = .next (State.evaluate { s with
        map := { s.map.swap with checkedN := s.slots }
        host := { s.host with deviceResult := .done }
        evu := { s.evu with latches := s.evu.latches ||| BitVec.twoPow 7 4 } })) ∧
    (s.map.target = none → txControlCount s.map.pendingBank s.slots ≤ 1 → s.hwi.sync ≠ .off →
      exec .switch s = .next (State.evaluate { s with
        map := { s.map with target := some s.host.darg }, host := { s.host with deviceResult := .done } }))) ∧
  (∀ s : State, s.resetPin = false →
    exec .mapSwitch s = .next s.mapTest.evaluate ∧
    (s.map.dueFrame = none → exec .mapSwitch s = .next s.evaluate) ∧
    ∀ f : Word, s.map.dueFrame = some f →
      (s.map.target = none →
        exec .mapSwitch s = .next (State.evaluate { s with map := { s.map with dueFrame := none } })) ∧
      ∀ target : Word, s.map.target = some target →
        ((target - f).toNat = 0 →
          exec .mapSwitch s = .next (State.evaluate { s with
            map := { s.map.swap with dueFrame := none }
            evu := { s.evu with latches := s.evu.latches ||| BitVec.twoPow 7 4 } })) ∧
        (32768 ≤ (target - f).toNat →
          exec .mapSwitch s = .next (State.evaluate { s with
            map := { s.map.swap with dueFrame := none }
            evu := { s.evu with latches := s.evu.latches ||| BitVec.twoPow 7 4 ||| BitVec.twoPow 7 5 } })) ∧
        (1 ≤ (target - f).toNat → (target - f).toNat ≤ 32767 →
          exec .mapSwitch s = .next (State.evaluate { s with map := { s.map with dueFrame := none } })))

/-- R33: CANCEL. That a test which a frame start made due, and which is not yet taken, goes with the switch is the model's
choice (log entry 8).
R152: POPCQ. -/
def Obligations.CancelAndPopAct : Prop :=
  (∀ s : State, s.resetPin = false →
    (s.map.target ≠ none →
      exec .cancel s = .next (State.evaluate { s with
        map := { s.map with target := none, dueFrame := none }, host := { s.host with deviceResult := .done } })) ∧
    (s.map.target = none →
      exec .cancel s = .next (State.evaluate { s with host := { s.host with deviceResult := .nothing } }))) ∧
  (∀ s : State, s.resetPin = false →
    (∀ e rest, s.cq.entries = e :: rest →
      exec .popcq s = .next (State.evaluate { s with
        cq := { s.cq with entries := rest, reservations := s.cq.reservations - 1 }
        host := { s.host with deviceResult := .done } })) ∧
    (s.cq.entries = [] →
      exec .popcq s = .next (State.evaluate { s with host := { s.host with deviceResult := .nothing } })))

/-! ### Channel commands, for the channel of CHSEL -/

/-- R75, R76: OPEN and LISTEN, in their order of tests. -/
def Obligations.OpenAndListenLeaveClosed : Prop :=
  ∀ (s : State) (ch : Channel), s.resetPin = false → s.chan s.host.selected = ch →
    (ch.link.state = .closed → ch.config.mode = .credit →
      ((ch.rx.records ≠ [] ∨ 0 < ch.tx.composing) →
        exec .chanOpen s = .next (s.setChannelResult .wrongState).evaluate ∧
        exec .chanListen s = .next (s.setChannelResult .wrongState).evaluate) ∧
      (ch.rx.records = [] → ch.tx.composing = 0 → s.regionsValid s.host.selected = false →
        exec .chanOpen s = .next (s.setChannelResult .badConfig).evaluate ∧
        exec .chanListen s = .next (s.setChannelResult .badConfig).evaluate) ∧
      (ch.rx.records = [] → ch.tx.composing = 0 → s.regionsValid s.host.selected = true →
        exec .chanListen s = .next (State.evaluate ((s.setChan s.host.selected
          { ch with link := { ch.link with state := .listen },
                    latches := ch.latches ||| BitVec.twoPow 4 0 }).setChannelResult .done)))) ∧
    (ch.link.state = .closed → ch.config.mode = .stream →
      exec .chanListen s = .next (s.setChannelResult .badConfig).evaluate ∧
      ((ch.rx.records ≠ [] ∨ ch.tx.fifo ≠ []) →
        exec .chanOpen s = .next (s.setChannelResult .wrongState).evaluate) ∧
      (ch.rx.records = [] → ch.tx.fifo = [] → s.regionsValid s.host.selected = false →
        exec .chanOpen s = .next (s.setChannelResult .badConfig).evaluate) ∧
      (ch.rx.records = [] → ch.tx.fifo = [] → s.regionsValid s.host.selected = true →
        exec .chanOpen s = .next ((s.enterOpen s.host.selected).setChannelResult .done).evaluate)) ∧
    (ch.link.state = .listen → s.regionsValid s.host.selected = false →
      exec .chanOpen s = .next (s.setChannelResult .badConfig).evaluate) ∧
    ((ch.link.state = .listen ∨ (ch.link.state = .closed ∧ ch.config.mode = .credit ∧ ch.rx.records = [] ∧
        ch.tx.composing = 0)) → s.regionsValid s.host.selected = true →
      exec .chanOpen s = .next (State.evaluate ((({ s with lnk := { s.lnk with
          queue := enqueue s.lnk.queue ⟨s.host.selected, .request, .open_, ch.config.peerStation,
            ch.config.peerChannel, false⟩ } } : State).setChan s.host.selected
        { ch with
          link := { ch.link with
            state := .opening, answerTimer := some (4 * s.lnk.answerTimeout), retriesLeft := s.lnk.retryCount }
          latches := ch.latches ||| BitVec.twoPow 4 0 }).setChannelResult .done))) ∧
    (ch.link.state ≠ .closed →
      exec .chanListen s = .next (s.setChannelResult .wrongState).evaluate) ∧
    (ch.link.state ≠ .closed → ch.link.state ≠ .listen →
      exec .chanOpen s = .next (s.setChannelResult .wrongState).evaluate)

/-- R77, R88, R90: CLOSE by link state; a channel with nothing to send passes DRAIN at once. The TX free position after the
flush is read from R42 (log entry 17). -/
def Obligations.CloseDrainsOrCloses : Prop :=
  ∀ (s : State) (ch : Channel), s.resetPin = false → s.chan s.host.selected = ch →
    (ch.link.state = .opened → ch.config.mode = .credit → ch.tx.messages ≠ [] →
      exec .chanClose s = .next (State.evaluate ((s.setChan s.host.selected
        { ch with
          link := { ch.link with state := .drain }
          tx := { ch.tx with composing := 0, spoiled := false }
          latches := ch.latches ||| BitVec.twoPow 4 0 }).setChannelResult .done))) ∧
    (ch.link.state = .opened → ch.config.mode = .credit → ch.tx.messages = [] →
      exec .chanClose s = .next (State.evaluate ((({ s with lnk := { s.lnk with
          queue := enqueue s.lnk.queue ⟨s.host.selected, .request, .close, ch.config.peerStation,
            ch.config.peerChannel, false⟩ } } : State).setChan s.host.selected
        { ch with
          link := { ch.link with
            state := .closeWait, answerTimer := some (4 * s.lnk.answerTimeout), retriesLeft := s.lnk.retryCount }
          tx := { ch.tx with composing := 0, spoiled := false }
          latches := ch.latches ||| BitVec.twoPow 4 0 }).setChannelResult .done))) ∧
    (ch.link.state = .opened → ch.config.mode = .stream →
      ∀ tx, tx = (if ch.tx.openMessage then ch.tx.endOpenMessage else ch.tx) →
      ∀ u, u = s.setChan s.host.selected
        { ch with link := { ch.link with state := .drain }, tx := tx,
                  latches := ch.latches ||| BitVec.twoPow 4 0 } →
      ((tx.fifo ≠ [] ∨ tx.inProgress = true) →
        exec .chanClose s = .next (u.setChannelResult .done).evaluate) ∧
      (tx.fifo = [] → tx.inProgress = false →
        exec .chanClose s = .next ((u.closeConnected s.host.selected .closed).setChannelResult .done).evaluate)) ∧
    ((ch.link.state = .listen ∨ ch.link.state = .opening) → ∀ (tx : TxSide) (es : List CqEntry),
      (ch.config.mode = .credit → es = ch.tx.messages.map (fun m => m.entry s.host.selected .flushed s.hwi.frame) ∧
        tx = { ch.tx with free := if ch.tx.held = 0 then ch.tx.free else 0, messages := [], composing := 0,
                          spoiled := false, onLine := false }) →
      (ch.config.mode = .stream → es = [] ∧
        tx = { ch.tx with free := if ch.tx.held = 0 then ch.tx.free else 0, fifo := [], openMessage := false,
                          inProgress := false, pendingEnd := false, restartMark := false, onLine := false }) →
      exec .chanClose s = .next (State.evaluate ((({ s with
          cq := { s.cq with entries := s.cq.entries ++ es }
          lnk := { s.lnk with
            queue := s.lnk.queue.filter (fun e => !(e.isFor s.host.selected .request && e.opcode == .open_)) } } :
            State).setChan s.host.selected { ch with
          link := { ch.link with state := .closed, cause := .closed, answerTimer := none }
          probe := none
          tx := tx
          latches := ch.latches ||| BitVec.twoPow 4 0 }).setChannelResult .done))) ∧
    ((ch.link.state = .drain ∨ ch.link.state = .closeWait ∨ ch.link.state = .yield ∨ ch.link.state = .closed ∨
        ch.link.state = .fault) →
      exec .chanClose s = .next (s.setChannelResult .wrongState).evaluate)

/-- R78: RESET by mode and link state. A Reset request is queued first where one is sent. The TX free position after the
flush is read from R42 (log entry 17). -/
def Obligations.ResetAbandonsTheChannel : Prop :=
  ∀ (s : State) (ch : Channel), s.resetPin = false → s.chan s.host.selected = ch →
    ((ch.link.state = .closed ∨ ch.link.state = .fault) →
      exec .chanReset s = .next (s.setChannelResult .nothing).evaluate) ∧
    (ch.link.state.connected = true → ch.config.mode = .stream →
      exec .chanReset s =
        .next ((s.closeConnected s.host.selected .hostReset).setChannelResult .done).evaluate) ∧
    (ch.link.state.connected = true → ch.config.mode = .credit →
      exec .chanReset s =
        .next (((s.queueRequest s.host.selected .reset).closeConnected s.host.selected .hostReset).setChannelResult
          .done).evaluate) ∧
    ((ch.link.state = .listen ∨ ch.link.state = .opening) → ∀ (tx : TxSide) (es : List CqEntry),
      (ch.config.mode = .credit → es = ch.tx.messages.map (fun m => m.entry s.host.selected .flushed s.hwi.frame) ∧
        tx = { ch.tx with free := if ch.tx.held = 0 then ch.tx.free else 0, messages := [], composing := 0,
                          spoiled := false, onLine := false }) →
      (ch.config.mode = .stream → es = [] ∧
        tx = { ch.tx with free := if ch.tx.held = 0 then ch.tx.free else 0, fifo := [], openMessage := false,
                          inProgress := false, pendingEnd := false, restartMark := false, onLine := false }) →
      exec .chanReset s = .next (State.evaluate ((({ s with
          cq := { s.cq with entries := s.cq.entries ++ es }
          lnk := { s.lnk with
            queue := if ch.link.state = .opening then
                enqueue s.lnk.queue ⟨s.host.selected, .request, .reset, ch.config.peerStation,
                  ch.config.peerChannel, false⟩
              else s.lnk.queue } } : State).setChan s.host.selected { ch with
          link := { ch.link with state := .closed, cause := .hostReset, answerTimer := none }
          probe := none
          tx := tx
          latches := ch.latches ||| BitVec.twoPow 4 0 }).setChannelResult .done)))

/-- R79, R48, R160: FLUSH in CLOSED or FAULT empties both sides and clears the latches; a channel in FAULT then moves to
CLOSED, keeps its cause and latches StateChange afresh. That the TX free position returns to the first word only where
words were held is read from R42 (log entry 17). -/
def Obligations.FlushEmptiesClosedChannels : Prop :=
  ∀ (s : State) (ch : Channel), s.resetPin = false → s.chan s.host.selected = ch →
    ((ch.link.state = .closed ∨ ch.link.state = .fault) →
      exec .chanFlush s = .next (State.evaluate ((s.setChan s.host.selected
        { ch with
          link := { ch.link with state := .closed }
          rx := { ch.rx with free := 0, records := [] }
          tx := { ch.tx with
            composing := 0
            spoiled := false
            fifo := []
            free := if 0 < ch.tx.held ∧ (ch.tx.messages.map (·.length)).sum = 0 then 0 else ch.tx.free }
          latches := if ch.link.state = .fault then BitVec.twoPow 4 0 else 0 }).setChannelResult .done))) ∧
    (ch.link.state ≠ .closed → ch.link.state ≠ .fault →
      exec .chanFlush s = .next (s.setChannelResult .wrongState).evaluate)

/-- R112, R113: POST and ABANDON of a credit channel. -/
def Obligations.CreditPostAndAbandon : Prop :=
  ∀ (s : State) (ch : Channel), s.resetPin = false → s.chan s.host.selected = ch → ch.config.mode = .credit →
    ((ch.link.state = .listen ∨ ch.link.state = .opening ∨ ch.link.state = .opened) →
      (ch.tx.composing = 0 → exec .chanPost s = .next (s.setChannelResult .nothing).evaluate) ∧
      (0 < ch.tx.composing → ch.tx.spoiled = true →
        exec .chanPost s = .next (s.setChannelResult .spoiled).evaluate) ∧
      (0 < ch.tx.composing → ch.tx.spoiled = false → (8 ≤ ch.tx.messages.length ∨ 32 ≤ s.cq.reservations) →
        exec .chanPost s = .next (s.setChannelResult .noRoom).evaluate) ∧
      (0 < ch.tx.composing → ch.tx.spoiled = false → ch.tx.messages.length < 8 → s.cq.reservations < 32 →
        exec .chanPost s = .next (State.evaluate ((({ s with
            cq := { s.cq with reservations := s.cq.reservations + 1 } } : State).setChan s.host.selected
          { ch with tx := { ch.tx with
            composing := 0
            messages := ch.tx.messages ++
              [{ tag := ch.tx.tag, length := ch.tx.composing, sent := 0, clashed := false,
                 restarted := false }] } }).setChannelResult .done)))) ∧
    ((ch.link.state ≠ .listen ∧ ch.link.state ≠ .opening ∧ ch.link.state ≠ .opened) →
      exec .chanPost s = .next (s.setChannelResult .wrongState).evaluate) ∧
    (0 < ch.tx.composing →
      exec .chanAbandon s = .next (State.evaluate ((s.setChan s.host.selected
        { ch with tx := { ch.tx with composing := 0, spoiled := false } }).setChannelResult .done))) ∧
    (ch.tx.composing = 0 → exec .chanAbandon s = .next (s.setChannelResult .nothing).evaluate)

/-- R120, R121: POST and ABANDON of a stream channel. The FIFO is the word on the line, if any, then the words `ended`
of messages already ended, then `k` unsent words of the open message. That POST clears the restart mark where the open
message is the cut one follows the sentence of R124 (log entry 16). -/
def Obligations.StreamPostAndAbandon : Prop :=
  ∀ (s : State) (ch : Channel), s.resetPin = false → s.chan s.host.selected = ch → ch.config.mode = .stream →
    ((ch.link.state = .opened ∨ ch.link.state = .drain) → ch.tx.openMessage = false →
      exec .chanPost s = .next (s.setChannelResult .nothing).evaluate ∧
      exec .chanAbandon s = .next (s.setChannelResult .nothing).evaluate) ∧
    ((ch.link.state = .opened ∨ ch.link.state = .drain) → ch.tx.openMessage = true →
      ∀ (onWire ended : List Bool) (k : Nat), ch.tx.fifo = onWire ++ ended ++ List.replicate k false →
        onWire.length = (if ch.tx.onLine then 1 else 0) → ended.getLast? ≠ some false →
        (1 ≤ k →
          exec .chanPost s = .next (State.evaluate ((s.setChan s.host.selected
            { ch with tx := { ch.tx with
              fifo := onWire ++ ended ++ List.replicate (k - 1) false ++ [true]
              openMessage := false
              restartMark := ch.tx.restartMark && !ended.isEmpty } }).setChannelResult .done)) ∧
          exec .chanAbandon s = .next (State.evaluate ((s.setChan s.host.selected
            { ch with tx := { ch.tx with
              fifo := onWire ++ ended
              openMessage := false
              restartMark := false
              pendingEnd := ch.tx.pendingEnd || (ch.tx.inProgress && ended.isEmpty) } }).setChannelResult .done))) ∧
        (k = 0 → ch.tx.inProgress = true → ch.tx.pendingEnd = false → ended = [] →
          exec .chanPost s = .next (State.evaluate ((s.setChan s.host.selected
            { ch with tx := { ch.tx with pendingEnd := true, openMessage := false } }).setChannelResult .done)) ∧
          exec .chanAbandon s = .next (State.evaluate ((s.setChan s.host.selected
            { ch with tx := { ch.tx with pendingEnd := true, openMessage := false } }).setChannelResult .done))) ∧
        (k = 0 → (ch.tx.inProgress = false ∨ ch.tx.pendingEnd = true ∨ ended ≠ []) →
          exec .chanPost s = .next (State.evaluate ((s.setChan s.host.selected
            { ch with tx := { ch.tx with openMessage := false, restartMark := false } }).setChannelResult .done)) ∧
          exec .chanAbandon s = .next (State.evaluate ((s.setChan s.host.selected
            { ch with tx := { ch.tx with openMessage := false, restartMark := false } }).setChannelResult .done)))) ∧
    (ch.link.state ≠ .opened → ch.link.state ≠ .drain →
      exec .chanPost s = .next (s.setChannelResult .wrongState).evaluate ∧
      exec .chanAbandon s = .next (s.setChannelResult .wrongState).evaluate)

/-- R141, R96, R97: RELEASE, and the grant that follows it on a credit channel in a connected state. -/
def Obligations.ReleaseFreesTheHead : Prop :=
  ∀ (s : State) (ch : Channel), s.resetPin = false → s.chan s.host.selected = ch →
    (ch.rx.records = [] → exec .chanRelease s = .next (s.setChannelResult .nothing).evaluate) ∧
    ∀ r rest, ch.rx.records = r :: rest →
      (r.complete = false → exec .chanRelease s = .next (s.setChannelResult .wrongState).evaluate) ∧
      (r.complete = true → ch.creditConnected = false →
        exec .chanRelease s = .next (State.evaluate ((s.setChan s.host.selected
          { ch with rx := { ch.rx with
            records := rest, free := (ch.rx.free + r.length) % ch.rxRegion.capacity } }).setChannelResult .done))) ∧
      (r.complete = true → ch.creditConnected = true →
        ∃ ch', exec .chanRelease s =
            .next (State.evaluate ((s.setChan s.host.selected ch').setChannelResult .done)) ∧
          ch' = { ch with
            rx := { ch.rx with records := rest, free := (ch.rx.free + r.length) % ch.rxRegion.capacity }
            credits := { ch.credits with wordGranted := ch'.credits.wordGranted,
                                         msgGranted := ch'.credits.msgGranted }
            wordMark := ch'.wordMark
            msgMark := ch'.msgMark } ∧
          (ch.rx.held + ch.credits.outstandingWords ≤ ch.rxRegion.capacity →
            ch'.credits.outstandingWords = min (ch.rxRegion.capacity - (ch.rx.held - r.length)) 31 ∧
            ch'.wordMark =
              (if ch.credits.outstandingWords < min (ch.rxRegion.capacity - (ch.rx.held - r.length)) 31 then
                { set := true, chosen := false } else ch.wordMark)) ∧
          (ch.rx.records.length + ch.credits.outstandingMsgs ≤ 16 →
            ch'.credits.outstandingMsgs = 16 - rest.length ∧ ch'.msgMark = { set := true, chosen := false }))

/-- R111, R119, R127: a write to CDATA.
R139: a read of CDATA. That the word returned stands in the field `host.readData` is the model's own choice (log entry
14). -/
def Obligations.CdataStoresAndReads : Prop :=
  (∀ (s : State) (ch : Channel) (w : Word), s.resetPin = false → s.chan s.host.selected = ch →
    (ch.config.mode = .credit →
      (ch.link.state = .listen ∨ ch.link.state = .opening ∨ ch.link.state = .opened) → ch.tx.spoiled = false →
      ch.tx.composing < ch.config.maxLength → ch.tx.held < ch.txRegion.capacity →
      16 * ch.txRegion.base + (ch.tx.free + ch.tx.held) % ch.txRegion.capacity < 4096 →
      exec (.cdataWrite w) s = .next (State.evaluate (({ s with
          memory := Memory.write s.memory
            (16 * ch.txRegion.base + (ch.tx.free + ch.tx.held) % ch.txRegion.capacity) w } : State).setChan
        s.host.selected { ch with tx := { ch.tx with composing := ch.tx.composing + 1 } }))) ∧
    (ch.config.mode = .stream → ch.link.state = .opened → ch.tx.held < ch.txRegion.capacity →
      16 * ch.txRegion.base + (ch.tx.free + ch.tx.held) % ch.txRegion.capacity < 4096 →
      exec (.cdataWrite w) s = .next (State.evaluate (({ s with
          memory := Memory.write s.memory
            (16 * ch.txRegion.base + (ch.tx.free + ch.tx.held) % ch.txRegion.capacity) w } : State).setChan
        s.host.selected { ch with tx := { ch.tx with fifo := ch.tx.fifo ++ [false], openMessage := true } }))) ∧
    (ch.config.mode = .credit →
      ((ch.link.state ≠ .listen ∧ ch.link.state ≠ .opening ∧ ch.link.state ≠ .opened) ∨ ch.tx.spoiled = true ∨
        ch.config.maxLength ≤ ch.tx.composing ∨ ch.txRegion.capacity ≤ ch.tx.held) →
      exec (.cdataWrite w) s = .next (State.evaluate (s.setChan s.host.selected
        { ch with
          tx := { ch.tx with spoiled := ch.tx.spoiled || decide (0 < ch.tx.composing) }
          latches := ch.latches ||| BitVec.twoPow 4 1 }))) ∧
    (ch.config.mode = .stream → (ch.link.state ≠ .opened ∨ ch.txRegion.capacity ≤ ch.tx.held) →
      exec (.cdataWrite w) s = .next (State.evaluate (s.setChan s.host.selected
        { ch with latches := ch.latches ||| BitVec.twoPow 4 1 })))) ∧
  (∀ (s : State) (ch : Channel), s.resetPin = false → s.chan s.host.selected = ch →
    (∀ r rest, ch.rx.records = r :: rest → r.readPos < r.length →
      16 * ch.rxRegion.base + (ch.rx.free + r.readPos) % ch.rxRegion.capacity < 4096 →
      exec .cdataRead s = .next (State.evaluate (({ s with host := { s.host with
          readData := some (Memory.read s.memory
            (16 * ch.rxRegion.base + (ch.rx.free + r.readPos) % ch.rxRegion.capacity)) } } : State).setChan
        s.host.selected
        { ch with rx := { ch.rx with records := { r with readPos := r.readPos + 1 } :: rest } }))) ∧
    ((ch.rx.records = [] ∨ ∃ r rest, ch.rx.records = r :: rest ∧ r.length ≤ r.readPos) →
      exec .cdataRead s = .next (State.evaluate (({ s with host := { s.host with readData := some 0 } } : State).setChan
        s.host.selected { ch with latches := ch.latches ||| BitVec.twoPow 4 2 }))))

/-- The model's choice (log entry 5), after R42: a command that needs a word of the Buffer Memory outside words 0 to 4095
faults and does nothing else. R46 keeps every region in use inside the memory. -/
def Obligations.WordsOutsideTheMemoryFault : Prop :=
  ∀ (s : State) (ch : Channel) (c : Chan), s.resetPin = false → s.chan c = ch →
    (∀ w : Word, c = s.host.selected → ch.writeTaken = true → 4096 ≤ ch.txStoreAddr →
      exec (.cdataWrite w) s = .fault (.bufferAddress ch.txStoreAddr)) ∧
    (∀ r rest, c = s.host.selected → ch.rx.records = r :: rest → r.readPos < r.length →
      4096 ≤ ch.rxRegion.wordAt ch.rx.free r.readPos →
      exec .cdataRead s = .fault (.bufferAddress (ch.rxRegion.wordAt ch.rx.free r.readPos))) ∧
    (∀ (n : Slot) (a : Answer) (addr : Nat), s.quiet = true → s.slotReady n = true → s.entryOf n = .txData c →
      ch.offer c = some a → a.source = some addr → 4096 ≤ addr →
      exec (.txdataOffer n) s = .fault (.bufferAddress addr)) ∧
    (∀ (n : Slot) (k : Kind) (p : Word), s.quiet = true → s.slotReady n = true → s.entryOf n = .rxData c →
      k.isData = true → ch.receiving = true → (ch.dataWord s.hwi.frame k).2 = true → 4096 ≤ ch.rxStoreAddr →
      exec (.rxdataWord n (slotWord k p)) s = .fault (.bufferAddress ch.rxStoreAddr)) ∧
    (ch.txRegion.inside = true → ch.rxRegion.inside = true → ∀ free k : Nat,
      (0 < ch.txRegion.size → ch.txRegion.wordAt free k < 4096) ∧
      (0 < ch.rxRegion.size → ch.rxRegion.wordAt free k < 4096))

/-! ### Registers and tables -/

/-- R2: HCFG and HDIV are taken in OFF only.
R94, R108, R65, R154: the checked settings. TIMING changes no running timer; TIMING2 sets the refresh count and the
count of every running probe timer to 0; that this drops an expiry that is due and not yet taken is the model's choice (log
entry 27). -/
def Obligations.SettingsAreChecked : Prop :=
  (∀ (w : Word) (s : State), s.resetPin = false →
    (s.hwi.sync = .off →
      exec (.hcfgWrite w) s = .next (State.evaluate { s with hwi := { s.hwi with
        station := w.extractLsb' 0 4, lengthCode := w.extractLsb' 4 2,
        role := if w.getLsbD 8 = true then .master else .follower } }) ∧
      exec (.hdivWrite w) s = .next (State.evaluate { s with hwi := { s.hwi with divider := w.extractLsb' 0 8 } })) ∧
    (s.hwi.sync ≠ .off →
      exec (.hcfgWrite w) s = .next (State.evaluate { s with host := { s.host with deviceResult := .wrongState } }) ∧
      exec (.hdivWrite w) s = .next (State.evaluate { s with host := { s.host with deviceResult := .wrongState } }))) ∧
  (∀ (w : Word) (s : State), s.resetPin = false →
    (w.extractLsb' 0 8 = 0 →
      exec (.timingWrite w) s = .next (State.evaluate { s with host := { s.host with deviceResult := .badConfig } }) ∧
      exec (.timing2Write w) s = .next (State.evaluate { s with host := { s.host with deviceResult := .badConfig } })) ∧
    (w.extractLsb' 0 8 ≠ 0 →
      exec (.timingWrite w) s = .next (State.evaluate { s with lnk := { s.lnk with
        answerTimeout := (w.extractLsb' 0 8).toNat, retryCount := (w.extractLsb' 8 3).toNat } }) ∧
      exec (.timing2Write w) s = .next (State.evaluate { s with
        lnk := { s.lnk with probeDelay := (w.extractLsb' 0 8).toNat, refreshInterval := (w.extractLsb' 8 8).toNat,
                            refreshCount := 0 }
        chans := s.chans.map (fun ch => { ch with probe := ch.probe.map (fun _ => 0) }) })) ∧
    ((1 ≤ (w.extractLsb' 0 6).toNat ∧ (w.extractLsb' 0 6).toNat ≤ 32) →
      exec (.cqthrWrite w) s = .next (State.evaluate { s with cq := { s.cq with
        threshold := (w.extractLsb' 0 6).toNat } })) ∧
    (((w.extractLsb' 0 6).toNat = 0 ∨ 33 ≤ (w.extractLsb' 0 6).toNat) →
      exec (.cqthrWrite w) s = .next (State.evaluate { s with host := { s.host with deviceResult := .badConfig } })))

/-- R157, R159, R161: a 1 written clears a latch, a 0 keeps it, level positions are not reached; DEVEN stores all eight
enables; no result changes. -/
def Obligations.EventWritesClearAndEnable : Prop :=
  ∀ (w : Word) (s : State), s.resetPin = false →
    (∃ l : BitVec 7, exec (.devpendWrite w) s = .next (State.evaluate { s with evu := { s.evu with latches := l } }) ∧
      ∀ i : Fin 7, l.getLsbD i.val = (s.evu.latches.getLsbD i.val && !w.getLsbD i.val)) ∧
    (∃ e : BitVec 8, exec (.devenWrite w) s = .next (State.evaluate { s with evu := { s.evu with enables := e } }) ∧
      ∀ i : Fin 8, e.getLsbD i.val = w.getLsbD i.val) ∧
    ∃ l : BitVec 4, exec (.ceventWrite w) s = .next (State.evaluate (s.setChan s.host.selected
        { s.chan s.host.selected with latches := l })) ∧
      ∀ i : Fin 4, l.getLsbD i.val = ((s.chan s.host.selected).latches.getLsbD i.val && !w.getLsbD i.val)

/-- R51, R110, R166, R168, R170: TSEL is checked against the table sizes; DARG, CTAG and CHSEL are always taken; a write to
a read-only register or an unused offset changes nothing.
R173: an unlisted code is refused with BadConfig in the result of its register, and no block acts.
R166, R171, R173, Table 32: which command a write or a read of the window is, by word address, code and table. -/
def Obligations.SelectionAndUnlistedCodes : Prop :=
  (∀ (w : Word) (s : State), s.resetPin = false →
    (∀ t i : Nat, (w.extractLsb' 8 3).toNat = t → (w.extractLsb' 0 7).toNat = i →
      (((t ≤ 1 ∧ i < 64) ∨ (t = 2 ∧ i < 32) ∨ ((t = 3 ∨ t = 4) ∧ i < 96) ∨ (t = 5 ∧ i < 9)) →
        exec (.tselWrite w) s = .next (State.evaluate { s with host := { s.host with table := t, index := i } })) ∧
      (¬ ((t ≤ 1 ∧ i < 64) ∨ (t = 2 ∧ i < 32) ∨ ((t = 3 ∨ t = 4) ∧ i < 96) ∨ (t = 5 ∧ i < 9)) →
        exec (.tselWrite w) s =
          .next (State.evaluate { s with host := { s.host with deviceResult := .badConfig } }))) ∧
    exec (.registerWrite .darg w) s = .next (State.evaluate { s with host := { s.host with darg := w } }) ∧
    exec (.registerWrite .ctag w) s = .next (State.evaluate (s.setChan s.host.selected
      { s.chan s.host.selected with tx := { (s.chan s.host.selected).tx with tag := w } })) ∧
    exec (.registerWrite .chsel w) s = .next (State.evaluate { s with host := { s.host with
      selected := (w.extractLsb' 0 4).toFin, creditView := w.getLsbD 4 } }) ∧
    ∀ r : PlainReg, r ≠ .darg → r ≠ .ctag → r ≠ .chsel → exec (.registerWrite r w) s = .next s.evaluate) ∧
  (∀ (w : Word) (s : State), s.resetPin = false →
    (((w.extractLsb' 0 4).toNat = 0 ∨ 7 ≤ (w.extractLsb' 0 4).toNat) →
      exec (.unknownCommandCode .device w) s =
        .next { s with host := { s.host with deviceResult := .badConfig } }.evaluate) ∧
    (((w.extractLsb' 0 4).toNat = 0 ∨ 9 ≤ (w.extractLsb' 0 4).toNat) →
      exec (.unknownCommandCode .channel w) s =
        .next { s with host := { s.host with channelResult := .badConfig } }.evaluate)) ∧
  (∀ (t : Nat) (w : Word) (code : Nat), (w.extractLsb' 0 4).toNat = code →
    (code = 1 → commandOfWrite 0 t w = .start ∧ commandOfWrite 15 t w = .chanOpen) ∧
    (code = 2 → commandOfWrite 0 t w = .stop ∧ commandOfWrite 15 t w = .chanListen) ∧
    (code = 3 → commandOfWrite 0 t w = .switch ∧ commandOfWrite 15 t w = .chanClose) ∧
    (code = 4 → commandOfWrite 0 t w = .cancel ∧ commandOfWrite 15 t w = .chanReset) ∧
    (code = 5 → commandOfWrite 0 t w = .popcq ∧ commandOfWrite 15 t w = .chanFlush) ∧
    (code = 6 → commandOfWrite 0 t w = .softreset ∧ commandOfWrite 15 t w = .chanPost) ∧
    (code = 7 → commandOfWrite 15 t w = .chanAbandon) ∧
    (code = 8 → commandOfWrite 15 t w = .chanRelease) ∧
    (code = 0 ∨ 7 ≤ code → commandOfWrite 0 t w = .unknownCommandCode .device w) ∧
    (code = 0 ∨ 9 ≤ code → commandOfWrite 15 t w = .unknownCommandCode .channel w)) ∧
  ∀ (t : Nat) (w : Word),
    [1, 2, 3, 6, 7, 9, 10, 13, 14, 16, 17, 18, 25].map (fun a => commandOfWrite a t w) =
      [.registerWrite .darg w, .hcfgWrite w, .hdivWrite w, .devpendWrite w, .devenWrite w, .timingWrite w,
        .timing2Write w, .cqthrWrite w, .registerWrite .chsel w, .cdataWrite w, .registerWrite .ctag w, .ceventWrite w,
        .tselWrite w] ∧
    [4, 5, 8, 11, 12, 19, 20, 21, 22, 23, 24].map (fun a => commandOfWrite a t w) =
      [.frame, .mapstat, .chsum, .cq0, .cq1, .txfree, .rxlen, .rxflags, .rxframe0, .rxframe1, .crstat].map
        (fun r => .registerWrite r w) ∧
    (∀ (a : Fin 32) (k : Fin 5), a.val = 27 + k.val → commandOfWrite a t w = .registerWrite (.unused k) w) ∧
    (t = 0 → commandOfWrite 26 t w = .pendingBankWrite w) ∧ (t = 2 → commandOfWrite 26 t w = .regionTableWrite w) ∧
    (t = 3 → commandOfWrite 26 t w = .configWordWrite w) ∧
    ((t = 1 ∨ t = 4 ∨ t = 5) → commandOfWrite 26 t w = .tableWriteIgnored w) ∧
    commandOfRead 16 t = some .cdataRead ∧ (t ≤ 3 → commandOfRead 26 t = some .tableRead) ∧
    (t = 4 → commandOfRead 26 t = some .channelCounterRead) ∧
    (t = 5 → commandOfRead 26 t = some .highwayCounterRead) ∧
    ∀ a : Fin 32, a ≠ 16 → a ≠ 26 → commandOfRead a t = none

/-- R25, R38, R39, R45, R171: writes through tables 0, 2 and 3. In every case the index advances, from the last index of
the table to 0. A region given anew starts at its first word (R42), and that TxSpace follows its size at once is the
model's choice (log entry 28).
R38 and Table 35: which configuration words are in range, and what a word in range stores. -/
def Obligations.TableWritesAreTakenOrRefused : Prop :=
  (∀ (w : Word) (s : State) (next : Nat), s.resetPin = false →
    next = (if s.host.index + 1 < tableSize s.host.table then s.host.index + 1 else 0) →
    (s.host.table = 0 →
      (s.map.target ≠ none →
        exec (.pendingBankWrite w) s = .next (State.evaluate { s with host := { s.host with
          index := next, deviceResult := .wrongState } })) ∧
      (s.map.target = none → 5 ≤ (w.extractLsb' 8 3).toNat →
        exec (.pendingBankWrite w) s = .next (State.evaluate { s with host := { s.host with
          index := next, deviceResult := .badConfig } })) ∧
      ∀ u : MapUse, s.map.target = none →
        (((w.extractLsb' 8 3).toNat = 0 ∧ u = .unused) ∨
          ((w.extractLsb' 8 3).toNat = 1 ∧ u = .txData (w.extractLsb' 0 4).toFin) ∨
          ((w.extractLsb' 8 3).toNat = 2 ∧ u = .rxData (w.extractLsb' 0 4).toFin) ∨
          ((w.extractLsb' 8 3).toNat = 3 ∧ u = .txControl) ∨
          ((w.extractLsb' 8 3).toNat = 4 ∧ u = .rxControl (w.extractLsb' 0 4))) →
        exec (.pendingBankWrite w) s = .next (State.evaluate { s with
          host := { s.host with index := next }
          map := s.map.setBank s.map.active.other (s.map.pendingBank.set (Fin.ofNat 64 s.host.index) u) })) ∧
    (s.host.table = 2 →
      (65 ≤ (w.extractLsb' 0 7).toNat →
        exec (.regionTableWrite w) s = .next (State.evaluate { s with host := { s.host with
          index := next, deviceResult := .badConfig } })) ∧
      ((w.extractLsb' 0 7).toNat ≤ 64 → ∀ ch, s.chan (Fin.ofNat 16 (s.host.index / 2)) = ch →
        ((ch.link.state ≠ .closed ∨ ch.hasStoredWords = true) →
          exec (.regionTableWrite w) s = .next (State.evaluate { s with host := { s.host with
            index := next, deviceResult := .wrongState } })) ∧
        (ch.link.state = .closed → ch.hasStoredWords = false → ∀ r : Region,
          r = ⟨(w.extractLsb' 8 8).toNat, (w.extractLsb' 0 7).toNat⟩ →
          exec (.regionTableWrite w) s = .next (State.evaluate (({ s with host := { s.host with
            index := next } } : State).setChan (Fin.ofNat 16 (s.host.index / 2))
              (if s.host.index % 2 = 0 then { ch with txRegion := r, tx := { ch.tx with free := 0 } }
              else { ch with rxRegion := r, rx := { ch.rx with free := 0 } })))))) ∧
    (s.host.table = 3 → ∀ ch, s.chan (Fin.ofNat 16 (s.host.index / 6)) = ch →
      (ch.config.write (s.host.index % 6) w = none →
        exec (.configWordWrite w) s = .next (State.evaluate { s with host := { s.host with
          index := next, deviceResult := .badConfig } })) ∧
      ∀ g, ch.config.write (s.host.index % 6) w = some g →
        ((s.host.index % 6 = 0 ∧ (ch.link.state ≠ .closed ∨ ch.hasStoredWords = true)) →
          exec (.configWordWrite w) s = .next (State.evaluate { s with host := { s.host with
            index := next, deviceResult := .wrongState } })) ∧
        ((s.host.index % 6 ≠ 0 ∨ (ch.link.state = .closed ∧ ch.hasStoredWords = false)) →
          exec (.configWordWrite w) s = .next (State.evaluate (({ s with host := { s.host with
            index := next } } : State).setChan (Fin.ofNat 16 (s.host.index / 6)) { ch with config := g }))))) ∧
  (∀ (g g' : ChanConfig) (w : Word),
    (g.write 0 w = some g' ↔ ∃ m, m.code = w.extractLsb' 8 2 ∧
      g' = { g with mode := m, peerStation := w.extractLsb' 4 4, peerChannel := w.extractLsb' 0 4 }) ∧
    (g.write 1 w = some g' ↔ ∃ n, n.code = w.extractLsb' 12 2 ∧
      1 ≤ (w.extractLsb' 0 9).toNat ∧ (w.extractLsb' 0 9).toNat ≤ 256 ∧
      g' = { g with notify := n, maxLength := (w.extractLsb' 0 9).toNat }) ∧
    (g.write 2 w = some g' ↔ g' = { g with fillValue := w }) ∧
    (g.write 3 w = some g' ↔ 1 ≤ (w.extractLsb' 0 11).toNat ∧ (w.extractLsb' 0 11).toNat ≤ 1024 ∧
      g' = { g with rxThreshold := (w.extractLsb' 0 11).toNat }) ∧
    (g.write 4 w = some g' ↔ (w.extractLsb' 0 11).toNat ≤ 1024 ∧
      g' = { g with txThreshold := (w.extractLsb' 0 11).toNat }) ∧
    (g.write 5 w = some g' ↔ g' = { g with enables := w.extractLsb' 0 6 }))

/-- R17, R26, R41, R45, R50, R171: reads of the tables return the word as it stands, a read of table 4 or 5 then clears
the counter, an ignored write stores nothing, and every access advances the index.
R26, Table 35: the words of tables 0 to 3, field by field. -/
def Obligations.TableReadsReturnAndClear : Prop :=
  (∀ (s : State) (next : Nat), s.resetPin = false →
    next = (if s.host.index + 1 < tableSize s.host.table then s.host.index + 1 else 0) →
    (s.host.table ≤ 3 →
      exec .tableRead s = .next (State.evaluate { s with host := { s.host with
        index := next, readData := some (s.tableWord s.host.table s.host.index) } })) ∧
    (s.host.table = 4 →
      exec .channelCounterRead s = .next (State.evaluate (({ s with host := { s.host with
          index := next
          readData := some (((s.chan (Fin.ofNat 16 (s.host.index / 6))).counters[Fin.ofNat 6 s.host.index]).setWidth
            16) } } : State).setChan (Fin.ofNat 16 (s.host.index / 6))
        { s.chan (Fin.ofNat 16 (s.host.index / 6)) with
          counters := (s.chan (Fin.ofNat 16 (s.host.index / 6))).counters.set (Fin.ofNat 6 s.host.index) 0 }))) ∧
    (s.host.table = 5 →
      exec .highwayCounterRead s = .next (State.evaluate { s with
        host := { s.host with
          index := next, readData := some ((s.hwi.counters[Fin.ofNat 9 s.host.index]).setWidth 16) }
        hwi := { s.hwi with counters := s.hwi.counters.set (Fin.ofNat 9 s.host.index) 0 } })) ∧
    ∀ w : Word, (s.host.table = 1 ∨ s.host.table = 4 ∨ s.host.table = 5) →
      exec (.tableWriteIgnored w) s = .next (State.evaluate { s with host := { s.host with index := next } })) ∧
  ∀ s : State,
    (∀ (i : Slot) (t : Nat) (u : MapUse),
      (t = 0 ∧ (s.map.active = .a ∧ s.map.bankB[i] = u ∨ s.map.active = .b ∧ s.map.bankA[i] = u)) ∨
      (t = 1 ∧ (s.map.active = .a ∧ s.map.bankA[i] = u ∨ s.map.active = .b ∧ s.map.bankB[i] = u)) →
      (u = .unused → s.tableWord t i.val = 0) ∧
      (∀ c : Chan, u = .txData c → (s.tableWord t i.val).toNat = 0x100 + c.val) ∧
      (∀ c : Chan, u = .rxData c → (s.tableWord t i.val).toNat = 0x200 + c.val) ∧
      (u = .txControl → s.tableWord t i.val = 0x300) ∧
      (∀ p : Address, u = .rxControl p → (s.tableWord t i.val).toNat = 0x400 + p.toNat)) ∧
    ∀ (c : Chan) (ch : Channel), s.chan c = ch →
      (ch.txRegion.base < 256 → ch.txRegion.size ≤ 64 →
        (s.tableWord 2 (2 * c.val)).toNat = 256 * ch.txRegion.base + ch.txRegion.size) ∧
      (ch.rxRegion.base < 256 → ch.rxRegion.size ≤ 64 →
        (s.tableWord 2 (2 * c.val + 1)).toNat = 256 * ch.rxRegion.base + ch.rxRegion.size) ∧
      (s.tableWord 3 (6 * c.val)).extractLsb' 0 4 = ch.config.peerChannel ∧
      (s.tableWord 3 (6 * c.val)).extractLsb' 4 4 = ch.config.peerStation ∧
      (s.tableWord 3 (6 * c.val)).extractLsb' 8 2 = ch.config.mode.code ∧
      (ch.config.maxLength ≤ 256 →
        ((s.tableWord 3 (6 * c.val + 1)).extractLsb' 0 9).toNat = ch.config.maxLength) ∧
      (s.tableWord 3 (6 * c.val + 1)).extractLsb' 12 2 = ch.config.notify.code ∧
      s.tableWord 3 (6 * c.val + 2) = ch.config.fillValue ∧
      (ch.config.rxThreshold ≤ 1024 → (s.tableWord 3 (6 * c.val + 3)).toNat = ch.config.rxThreshold) ∧
      (ch.config.txThreshold ≤ 1024 → (s.tableWord 3 (6 * c.val + 4)).toNat = ch.config.txThreshold) ∧
      s.tableWord 3 (6 * c.val + 5) = ch.config.enables.setWidth 16

/-- R19, R35, R52, R125, R143, R153, R172 and Table 34: what the status registers show, field by field. The register of
an offset is at half that number.
R168 and Table 34: a word taken by a readable register is read back in the register's fields, and its other bits
read 0. -/
def Obligations.RegistersShowTheState : Prop :=
  (∀ (s : State) (ch : Channel), s.chan s.host.selected = ch →
    ((s.readRegister 0).extractLsb' 0 2 = s.hwi.sync.code ∧ (s.readRegister 0).extractLsb' 2 1 = s.hwi.role.code ∧
      ((s.readRegister 0).getLsbD 3 = true ↔ s.map.target ≠ none) ∧
      (s.readRegister 0).extractLsb' 4 3 = s.host.deviceResult.code ∧
      (s.cq.entries.length ≤ 32 → ((s.readRegister 0).extractLsb' 8 6).toNat = s.cq.entries.length)) ∧
    (s.readRegister 4 = s.hwi.frame ∧ s.readRegister 8 = s.evu.summary) ∧
    ((∀ f : Word, s.map.target = some f → (s.readRegister 5).extractLsb' 0 14 = f.extractLsb' 0 14 ∧
        (s.readRegister 5).getLsbD 14 = true) ∧
      (s.map.target = none → (s.readRegister 5).extractLsb' 0 15 = 0) ∧
      ((s.readRegister 5).getLsbD 15 = true ↔ s.map.active = .b)) ∧
    ((∀ i : Fin 7, (s.readRegister 6).getLsbD i.val = s.evu.latches.getLsbD i.val) ∧
      (s.readRegister 6).getLsbD 7 = s.evu.cqReady) ∧
    (∀ e rest, s.cq.entries = e :: rest →
      (s.readRegister 11).extractLsb' 0 9 = e.tag.extractLsb' 0 9 ∧ (s.readRegister 11).getLsbD 9 = e.restarted ∧
      (s.readRegister 11).extractLsb' 10 2 = e.status.code ∧
      ((s.readRegister 11).extractLsb' 12 4).toNat = e.chan.val ∧ s.readRegister 12 = e.endFrame) ∧
    (s.cq.entries = [] → s.readRegister 11 = 0 ∧ s.readRegister 12 = 0) ∧
    ((s.readRegister 15).extractLsb' 0 3 = ch.link.state.code ∧
      (s.readRegister 15).extractLsb' 4 3 = ch.link.cause.code ∧
      (s.readRegister 15).extractLsb' 8 3 = s.host.channelResult.code) ∧
    ((∀ i : Fin 4, (s.readRegister 18).getLsbD i.val = ch.latches.getLsbD i.val) ∧
      (s.readRegister 18).getLsbD 4 = s.evu.rxReady.getLsbD s.host.selected.val ∧
      (s.readRegister 18).getLsbD 5 = s.evu.txSpace.getLsbD s.host.selected.val) ∧
    (ch.txRegion.capacity ≤ 1024 → ch.tx.messages.length ≤ 8 →
      ((s.readRegister 19).extractLsb' 0 11).toNat = ch.txRegion.capacity - ch.tx.held ∧
      ((s.readRegister 19).extractLsb' 11 4).toNat = ch.tx.messages.length) ∧
    (∀ r rest, ch.rx.records = r :: rest → r.length ≤ 256 → r.readPos ≤ r.length → ch.rx.records.length ≤ 16 →
      ((s.readRegister 20).extractLsb' 0 9).toNat = r.length ∧ (s.readRegister 20).getLsbD 9 = r.complete ∧
      ((s.readRegister 20).extractLsb' 10 5).toNat = ch.rx.records.length ∧
      (s.readRegister 21).getLsbD 0 = r.flags.broken ∧ (s.readRegister 21).getLsbD 1 = r.flags.damaged ∧
      (s.readRegister 21).getLsbD 2 = r.flags.truncated ∧ (s.readRegister 21).getLsbD 3 = r.flags.overrun ∧
      (s.readRegister 21).getLsbD 4 = r.flags.aborted ∧ (s.readRegister 21).getLsbD 5 = r.lastFrame.isSome ∧
      ((s.readRegister 21).extractLsb' 6 9).toNat = r.readPos ∧
      s.readRegister 22 = r.firstFrame ∧ s.readRegister 23 = r.lastFrame.getD 0) ∧
    (ch.rx.records = [] → s.readRegister 20 = 0 ∧ s.readRegister 21 = 0 ∧ s.readRegister 22 = 0 ∧
      s.readRegister 23 = 0) ∧
    ((s.readRegister 24).getLsbD 15 = s.host.creditView ∧
      (ch.creditConnected = true → s.host.creditView = false →
        (s.readRegister 24).extractLsb' 0 5 = ch.credits.wordHeard - ch.credits.wordUsed ∧
        ((s.readRegister 24).extractLsb' 8 5).toNat = min (ch.credits.msgHeard - ch.credits.msgUsed).toNat 16) ∧
      (ch.creditConnected = true → s.host.creditView = true →
        (s.readRegister 24).extractLsb' 0 5 = ch.credits.wordGranted - ch.credits.wordCounted ∧
        (s.readRegister 24).extractLsb' 8 5 = ch.credits.msgGranted - ch.credits.msgCounted) ∧
      (ch.creditConnected = false → (s.readRegister 24).extractLsb' 0 15 = 0))) ∧
  (∀ (w : Word) (s t : State), s.resetPin = false →
    (s.hwi.sync = .off → exec (.hcfgWrite w) s = .next t → t.readRegister 2 = w &&& 0x013F) ∧
    (s.hwi.sync = .off → exec (.hdivWrite w) s = .next t → t.readRegister 3 = w &&& 0x00FF) ∧
    (exec (.registerWrite .darg w) s = .next t → t.readRegister 1 = w) ∧
    (exec (.devenWrite w) s = .next t → t.readRegister 7 = w &&& 0x00FF) ∧
    (w &&& 0x00FF ≠ 0 → exec (.timingWrite w) s = .next t → t.readRegister 9 = w &&& 0x07FF) ∧
    (w &&& 0x00FF ≠ 0 → exec (.timing2Write w) s = .next t → t.readRegister 10 = w) ∧
    (1 ≤ (w &&& 0x003F).toNat → (w &&& 0x003F).toNat ≤ 32 → exec (.cqthrWrite w) s = .next t →
      t.readRegister 13 = w &&& 0x003F) ∧
    (exec (.registerWrite .chsel w) s = .next t → t.readRegister 14 = w &&& 0x001F) ∧
    (exec (.registerWrite .ctag w) s = .next t → t.readRegister 17 = w) ∧
    (tselOfWord w ≠ none → exec (.tselWrite w) s = .next t → t.readRegister 25 = w &&& 0x077F) ∧
    (s.host.table = 2 → s.host.index < 32 → (w.extractLsb' 0 7).toNat ≤ 64 →
      (s.chan (Fin.ofNat 16 (s.host.index / 2))).reconfigurable = true → exec (.regionTableWrite w) s = .next t →
      t.tableWord 2 s.host.index = w &&& 0xFF7F) ∧
    (s.host.table = 3 → s.host.index < 96 →
      (s.chan (Fin.ofNat 16 (s.host.index / 6))).reconfigurable = true →
      (s.chan (Fin.ofNat 16 (s.host.index / 6))).config.write (s.host.index % 6) w ≠ none →
      exec (.configWordWrite w) s = .next t →
      t.tableWord 3 s.host.index = w &&& (match s.host.index % 6 with
        | 0 => 0x03FF
        | 1 => 0x31FF
        | 2 => 0xFFFF
        | 3 => 0x07FF
        | 4 => 0x07FF
        | _ => 0x003F)))

/-! ### Synchronisation and frames -/

/-- R1: HSYNC found asserted at a bit clock is a pulse if it was not asserted at the bit clock before; held from there, it
is recorded as held and nothing else comes of it, in ACQUIRE, at an unexpected bit and at the expected bit.
R12: acquisition. A pulse exactly one frame after the last opens a candidate frame, any other is only recorded; a valid
Header of a candidate frame locks the Follower and gives the frame start.
R8, R13, R14: a Follower's frames begin with the pulse at the expected bit, or on its own count with SyncMisses
advanced, and the frame number advances by one. That bit clocks are counted without bound, and the value `frameBit` takes,
are the model's choice (log entry 12); that HSYNC is held in `hsyncBit` by its bit clock is read by inference (log entry
29). -/
def Obligations.FollowerKeepsLock : Prop :=
  (∀ s : State, s.resetPin = false → s.hwi.sync = .acquire →
    (∀ k : Nat, (∀ a, s.hwi.hsyncBit = some a → a + 1 < k) →
      ((s.hwi.candidate = false ∧ ∃ last, s.hwi.lastPulse = some last ∧ k = last + 20 * s.slots) →
        exec (.acquirePulse k) s = .next (State.evaluate { s with hwi := { s.hwi with
          lastPulse := some k, hsyncBit := some k, candidate := true } })) ∧
      (¬ (s.hwi.candidate = false ∧ ∃ last, s.hwi.lastPulse = some last ∧ k = last + 20 * s.slots) →
        exec (.acquirePulse k) s = .next (State.evaluate { s with hwi := { s.hwi with
          lastPulse := some k, hsyncBit := some k, candidate := false } }))) ∧
    (∀ a : Nat, s.hwi.hsyncBit = some a →
      exec (.acquirePulse (a + 1)) s = .next (State.evaluate { s with hwi := { s.hwi with hsyncBit := some (a + 1) } })) ∧
    (s.quiet = true → s.hwi.candidate = true →
      (∀ (line : SlotBits) (p : Word), receive line = .word .header p →
        exec (.candidateHeader line) s = .next (State.evaluate (State.frameStart { s with
          hwi := { s.hwi with sync := .locked, frame := p, frameBit := s.hwi.lastPulse.getD 0, lastPulse := none,
                              candidate := false }
          evu := { s.evu with latches := s.evu.latches ||| BitVec.twoPow 7 0 } }))) ∧
      ∀ line : SlotBits, (∀ p, receive line ≠ .word .header p) →
        exec (.candidateHeader line) s =
          .next (State.evaluate { s with hwi := { s.hwi with candidate := false } }))) ∧
  (∀ s : State, s.resetPin = false → s.quiet = true → s.hwi.role = .follower → s.hwi.betweenSlots = true →
    (s.hwi.sync = .locked →
      exec .syncMiss s = .next (State.evaluate { s with hwi := { s.hwi with
        sync := .holdover
        counters := s.hwi.counters.set 3 (advance s.hwi.counters[3])
        frame := s.hwi.frame + 1
        position := .header
        frameBit := s.hwi.frameBit + 20 * s.slots } })) ∧
    ((s.hwi.sync = .locked ∨ s.hwi.sync = .holdover) →
      ((∀ a, s.hwi.hsyncBit = some a → a + 1 < s.hwi.frameBit + 20 * s.slots) →
        exec .pulseAtExpectedBit s = .next (State.evaluate { s with hwi := { s.hwi with
          sync := .locked
          frame := s.hwi.frame + 1
          position := .header
          frameBit := s.hwi.frameBit + 20 * s.slots
          hsyncBit := some (s.hwi.frameBit + 20 * s.slots) } })) ∧
      (∀ a : Nat, s.hwi.hsyncBit = some a → a + 1 = s.hwi.frameBit + 20 * s.slots →
        exec .pulseAtExpectedBit s = .next (State.evaluate { s with hwi := { s.hwi with
          hsyncBit := some (a + 1) } })))) ∧
  ∀ (s : State) (bit a : Nat), s.resetPin = false → s.quiet = true → s.hwi.role = .follower →
    (s.hwi.sync = .locked ∨ s.hwi.sync = .holdover) → 1 ≤ bit → bit < 20 * s.slots →
    s.hwi.hsyncBit = some a → a + 1 = s.hwi.frameBit + bit →
    exec (.misplacedPulse bit) s = .next (State.evaluate { s with hwi := { s.hwi with hsyncBit := some (a + 1) } })

/-- R7, R8: the end of slot 0. A Follower keeps or adopts the frame number, a Master sends it; both give the frame start.
The last clause is the model's choice (log entry 11): a header slot that no earlier command began begins its frame, for a
Follower in LOCKED only, where it stands for the pulse at the expected bit.
R9, R29, R65, R91, R107: the frame start hands the settled number to the Slot Map for the test of a pending switch, and
does nothing to it with none pending, and counts one processed frame in every timer. That the number is held until the test
is taken is the model's choice (log entry 8), and so is the count of bit clocks in `frameBit` (log entry 12). -/
def Obligations.HeaderSlotGivesTheFrameStart : Prop :=
  (∀ (s : State) (line : SlotBits), s.resetPin = false → s.quiet = true →
    (s.hwi.role = .follower → (s.hwi.sync = .locked ∨ s.hwi.sync = .holdover) → s.hwi.position = .header →
      (receive line = .word .header s.hwi.frame →
        exec (.followerHeaderSlot line) s = .next s.frameStart.evaluate) ∧
      (∀ p, receive line = .word .header p → p ≠ s.hwi.frame →
        exec (.followerHeaderSlot line) s = .next (State.evaluate (State.frameStart { s with
          hwi := { s.hwi with frame := p, counters := s.hwi.counters.set 4 (advance s.hwi.counters[4]) }
          evu := { s.evu with latches := s.evu.latches ||| BitVec.twoPow 7 3 } }))) ∧
      ((∀ p, receive line ≠ .word .header p) →
        exec (.followerHeaderSlot line) s = .next (State.evaluate (State.frameStart { s with
          hwi := { s.hwi with counters := s.hwi.counters.set 2 (advance s.hwi.counters[2]) }
          evu := { s.evu with latches := s.evu.latches ||| BitVec.twoPow 7 6 } })))) ∧
    (s.hwi.role = .master → s.hwi.sync = .locked → s.hwi.position = .header →
      s.drivenWord = some (slotWord .header s.hwi.frame) ∧
      (slotWord .header s.hwi.frame &&& ~~~line = 0 →
        exec (.masterHeaderSlot line) s = .next s.frameStart.evaluate)) ∧
    (s.hwi.betweenSlots = true →
      s.beginFrame = { s with hwi := { s.hwi with
        frame := s.hwi.frame + 1, position := .header, frameBit := s.hwi.frameBit + 20 * s.slots } } ∧
      (s.hwi.followerRuns = true → s.hwi.sync = .locked →
        (∀ a, s.hwi.hsyncBit = some a → a + 1 < s.hwi.frameBit + 20 * s.slots) →
        exec (.followerHeaderSlot line) s = exec (.followerHeaderSlot line) (State.beginFrame { s with
          hwi := { s.hwi with hsyncBit := some (s.hwi.frameBit + 20 * s.slots) } })) ∧
      (s.hwi.masterRuns = true →
        exec (.masterHeaderSlot line) s = exec (.masterHeaderSlot line) s.beginFrame))) ∧
  (∀ s : State,
    s.frameStart =
      { s with
        hwi := { s.hwi with position := .served 0 }
        map := { s.map with dueFrame := if s.map.target = none then none else some s.hwi.frame }
        lnk := { s.lnk with
          refreshCount := if s.lnk.refreshInterval = 0 then 0 else s.lnk.refreshCount + 1 }
        chans := s.chans.map Channel.countFrame } ∧
    ∀ ch : Channel, ∃ timer probe,
      ch.countFrame = { ch with link := { ch.link with answerTimer := timer }, probe := probe } ∧
      (ch.link.answerTimer = none → timer = none) ∧
      (∀ n, ch.link.answerTimer = some n → timer = some (n - 1)) ∧
      (ch.probe = none → probe = none) ∧
      ∀ n, ch.probe = some n →
        ((∃ m rest, ch.tx.messages = m :: rest ∧ m.sent < m.length ∧
            (ch.credits.wordHeard = ch.credits.wordUsed ∨
              (m.sent = 0 ∧ ch.credits.msgHeard = ch.credits.msgUsed))) → probe = some (n + 1)) ∧
        ((¬ ∃ m rest, ch.tx.messages = m :: rest ∧ m.sent < m.length ∧
            (ch.credits.wordHeard = ch.credits.wordUsed ∨
              (m.sent = 0 ∧ ch.credits.msgHeard = ch.credits.msgUsed))) → probe = some 0))

/-- R85, R92, R93: an expiry of the answer timer.
R65, R108: an expiry of a probe timer queues a Probe, an expiry of the refresh timer sets both marks of every credit
channel in a connected state.
The model's choice (log entry 8): an expiry that is not due changes nothing, and an answer timer at 0 outside OPENING and
CLOSEWAIT, which no run reaches, is stopped. The TX free position after a flush is read from R42 (log entry 17). -/
def Obligations.TimersExpire : Prop :=
  (∀ (s : State) (c : Chan) (ch : Channel), s.resetPin = false → s.chan c = ch →
    (ch.link.answerTimer ≠ some 0 → exec (.answerTimerExpiry c) s = .next s.evaluate) ∧
    (ch.link.answerTimer = some 0 → (ch.link.state = .opening ∨ ch.link.state = .closeWait) →
      0 < ch.link.retriesLeft →
      exec (.answerTimerExpiry c) s = .next (State.evaluate (({ s with lnk := { s.lnk with
          queue := enqueue s.lnk.queue ⟨c, .request, if ch.link.state = .opening then .open_ else .close,
            ch.config.peerStation, ch.config.peerChannel, false⟩ } } : State).setChan c
        { ch with link := { ch.link with
          answerTimer := some (4 * s.lnk.answerTimeout), retriesLeft := ch.link.retriesLeft - 1 } }))) ∧
    (ch.link.answerTimer = some 0 → ch.link.state = .closeWait → ch.link.retriesLeft = 0 →
      exec (.answerTimerExpiry c) s = .next (s.closeConnected c .closeTimeout).evaluate) ∧
    (ch.link.answerTimer = some 0 → ch.link.state = .opening → ch.link.retriesLeft = 0 →
      ∀ (tx : TxSide) (es : List CqEntry),
      (ch.config.mode = .credit → es = ch.tx.messages.map (fun m => m.entry c .flushed s.hwi.frame) ∧
        tx = { ch.tx with free := if ch.tx.held = 0 then ch.tx.free else 0, messages := [], composing := 0,
                          spoiled := false, onLine := false }) →
      (ch.config.mode = .stream → es = [] ∧
        tx = { ch.tx with free := if ch.tx.held = 0 then ch.tx.free else 0, fifo := [], openMessage := false,
                          inProgress := false, pendingEnd := false, restartMark := false, onLine := false }) →
      exec (.answerTimerExpiry c) s = .next (State.evaluate (({ s with
          cq := { s.cq with entries := s.cq.entries ++ es }
          lnk := { s.lnk with
            queue := s.lnk.queue.filter (fun e => !(e.isFor c .request && e.opcode == .open_)) } } :
              State).setChan c { ch with
          link := { ch.link with state := .fault, cause := .noAnswer, answerTimer := none }
          probe := none
          tx := tx
          latches := ch.latches ||| BitVec.twoPow 4 0 }))) ∧
    (ch.link.answerTimer = some 0 → ch.link.state ≠ .opening → ch.link.state ≠ .closeWait →
      exec (.answerTimerExpiry c) s = .next (State.evaluate (s.setChan c
        { ch with link := { ch.link with answerTimer := none } })))) ∧
  (∀ s : State, s.resetPin = false →
    (∀ (c : Chan) (ch : Channel), s.chan c = ch →
      (∀ n, ch.probe = some n → s.lnk.probeDelay ≤ n →
        exec (.probeTimerExpiry c) s = .next (State.evaluate (({ s with lnk := { s.lnk with
            queue := enqueue s.lnk.queue ⟨c, .request, .probe, ch.config.peerStation, ch.config.peerChannel,
              false⟩ } } : State).setChan c { ch with probe := some 0 }))) ∧
      ((ch.probe = none ∨ ∃ n, ch.probe = some n ∧ n < s.lnk.probeDelay) →
        exec (.probeTimerExpiry c) s = .next s.evaluate)) ∧
    ((s.lnk.refreshInterval ≠ 0 ∧ 16 * s.lnk.refreshInterval ≤ s.lnk.refreshCount) →
      ∃ t, exec .refreshTimerExpiry s = .next t ∧
        t = State.evaluate { s with lnk := { s.lnk with refreshCount := 0 }, chans := t.chans } ∧
        ∀ c : Chan,
          ((s.chan c).creditConnected = true → t.chan c = { s.chan c with
            wordMark := { set := true, chosen := false }, msgMark := { set := true, chosen := false } }) ∧
          ((s.chan c).creditConnected = false → t.chan c = s.chan c)) ∧
    ((s.lnk.refreshInterval = 0 ∨ s.lnk.refreshCount < 16 * s.lnk.refreshInterval) →
      exec .refreshTimerExpiry s = .next s.evaluate))

/-- R88 to R90: drain completion. That a drain completion that is not due changes nothing is the model's choice (log
entry 8). -/
def Obligations.DrainCompletionByState : Prop :=
  ∀ (s : State) (c : Chan) (ch : Channel), s.resetPin = false → s.chan c = ch →
    (ch.config.mode = .credit → ch.tx.messages = [] → ch.link.state = .drain →
      exec (.drainCompletion c) s = .next (State.evaluate (({ s with lnk := { s.lnk with
          queue := enqueue s.lnk.queue ⟨c, .request, .close, ch.config.peerStation, ch.config.peerChannel,
            false⟩ } } : State).setChan c
        { ch with
          link := { ch.link with
            state := .closeWait, answerTimer := some (4 * s.lnk.answerTimeout), retriesLeft := s.lnk.retryCount }
          latches := ch.latches ||| BitVec.twoPow 4 0 }))) ∧
    (ch.config.mode = .credit → ch.tx.messages = [] → ch.link.state = .yield →
      exec (.drainCompletion c) s = .next (State.evaluate (({ s with lnk := { s.lnk with
          queue := enqueue s.lnk.queue ⟨c, .response, .closeAck, ch.config.peerStation, ch.config.peerChannel,
            false⟩ } } : State).closeConnected c .closed))) ∧
    (ch.config.mode = .stream → ch.tx.fifo = [] → ch.tx.inProgress = false → ch.link.state = .drain →
      (∀ bits, s.hwi.line ≠ some ⟨bits, .streamEnd c⟩) →
      exec (.drainCompletion c) s = .next (s.closeConnected c .closed).evaluate) ∧
    ((ch.link.state ≠ .drain ∧ ch.link.state ≠ .yield) →
      exec (.drainCompletion c) s = .next s.evaluate) ∧
    ((ch.config.mode = .credit ∧ ch.tx.messages ≠ []) →
      exec (.drainCompletion c) s = .next s.evaluate) ∧
    ((ch.config.mode = .stream ∧ (ch.tx.fifo ≠ [] ∨ ch.tx.inProgress = true ∨ ch.link.state = .yield ∨
        ∃ bits, s.hwi.line = some ⟨bits, .streamEnd c⟩)) →
      exec (.drainCompletion c) s = .next s.evaluate)

/-! ### Slots -/

/-- R103, R114: the offer of a TxData slot to a credit channel. -/
def Obligations.CreditOfferSendsTheWordDue : Prop :=
  ∀ (s : State) (n : Slot) (c : Chan) (ch : Channel), s.resetPin = false → s.quiet = true →
    s.slotReady n = true → s.entryOf n = .txData c → s.chan c = ch → ch.config.mode = .credit →
    (∀ m rest addr k, ch.link.state.connected = true → ch.tx.messages = m :: rest →
      1 ≤ (ch.credits.wordHeard - ch.credits.wordUsed).toNat →
      (m.sent = 0 → 1 ≤ (ch.credits.msgHeard - ch.credits.msgUsed).toNat) →
      addr = 16 * ch.txRegion.base + (ch.tx.free + m.sent) % ch.txRegion.capacity → addr < 4096 →
      k = (if m.length = 1 then .only else if m.sent = 0 then .first
        else if m.sent + 1 = m.length then .last else .middle) →
      exec (.txdataOffer n) s = .next (State.evaluate (({ s with hwi := { s.hwi with
          position := .served n.val
          line := some ⟨slotWord k (Memory.read s.memory addr), .creditData c⟩ } } : State).setChan c
        { ch with tx := { ch.tx with onLine := true } }))) ∧
    ((ch.link.state.connected = false ∨ ch.tx.messages = [] ∨ ch.credits.wordHeard = ch.credits.wordUsed ∨
        ∃ m rest, ch.tx.messages = m :: rest ∧ m.sent = 0 ∧ ch.credits.msgHeard = ch.credits.msgUsed) →
      exec (.txdataOffer n) s = .next (State.evaluate { s with hwi := { s.hwi with position := .served n.val } }))

/-- R122, Table 28: the offer of a TxData slot to a stream channel.
R5, R50, R123: the report of a stream channel's word: a FIFO word is freed, a Fill advances Underruns, the pending-end
Last frees nothing, and a clash is counted by the Highway Interface alone. That a Fill counts also for a channel reset
during its slot is read by inference (log entry 15). -/
def Obligations.StreamSlotsSendTheFifo : Prop :=
  (∀ (s : State) (n : Slot) (c : Chan) (ch : Channel) (u : State), s.resetPin = false → s.quiet = true →
    s.slotReady n = true → s.entryOf n = .txData c → s.chan c = ch → ch.config.mode = .stream →
    u = { s with hwi := { s.hwi with position := .served n.val } } →
    ((ch.link.state ≠ .opened ∧ ch.link.state ≠ .drain) → exec (.txdataOffer n) s = .next u.evaluate) ∧
    ((ch.link.state = .opened ∨ ch.link.state = .drain) →
      (ch.tx.pendingEnd = true →
        exec (.txdataOffer n) s = .next (State.evaluate (({ u with hwi := { u.hwi with
            line := some ⟨slotWord .last ch.config.fillValue, .streamEnd c⟩ } } : State).setChan c
          { ch with tx := { ch.tx with pendingEnd := false, inProgress := false } }))) ∧
      (∀ mark rest addr, ch.tx.pendingEnd = false → ch.tx.onLine = false → ch.tx.fifo = mark :: rest →
        addr = 16 * ch.txRegion.base + ch.tx.free % ch.txRegion.capacity → addr < 4096 →
        (ch.tx.inProgress = true →
          exec (.txdataOffer n) s = .next (State.evaluate (({ u with hwi := { u.hwi with
              line := some ⟨slotWord (if mark then .last else .middle) (Memory.read s.memory addr),
                .streamWord c⟩ } } : State).setChan c
            { ch with tx := { ch.tx with onLine := true, inProgress := !mark } }))) ∧
        (ch.tx.inProgress = false →
          exec (.txdataOffer n) s = .next (State.evaluate (({ u with hwi := { u.hwi with
              line := some ⟨slotWord (if mark then .only else .first) (Memory.read s.memory addr),
                .streamWord c⟩ } } : State).setChan c
            { ch with
              tx := { ch.tx with onLine := true, inProgress := !mark, restartMark := false }
              counters := if ch.tx.restartMark then ch.counters.set 5 (advance ch.counters[5])
                else ch.counters })))) ∧
      (ch.tx.pendingEnd = false → ch.tx.onLine = false → ch.tx.fifo = [] →
        (ch.tx.inProgress = true →
          exec (.txdataOffer n) s = .next (State.evaluate { u with hwi := { u.hwi with
            line := some ⟨slotWord .fill ch.config.fillValue, .streamFill c⟩ } })) ∧
        (ch.tx.inProgress = false → exec (.txdataOffer n) s = .next u.evaluate)))) ∧
  (∀ (s u : State) (c : Chan) (ch : Channel) (bits line : SlotBits) (clash : Bool), s.resetPin = false →
    s.chan c = ch → (clash = true ↔ bits &&& ~~~line ≠ 0) →
    u = { s with
      hwi := { s.hwi with
        line := none
        counters := if clash then s.hwi.counters.set 1 (advance s.hwi.counters[1]) else s.hwi.counters }
      evu := { s.evu with
        latches := if clash then s.evu.latches ||| BitVec.twoPow 7 6 else s.evu.latches } } →
    (s.hwi.line = some ⟨bits, .streamWord c⟩ → ch.tx.onLine = true →
      exec (.txdataReport line) s = .next (State.evaluate (u.setChan c
        { ch with tx := { ch.tx with
          fifo := ch.tx.fifo.tail, free := (ch.tx.free + 1) % ch.txRegion.capacity, onLine := false } }))) ∧
    (s.hwi.line = some ⟨bits, .streamWord c⟩ → ch.tx.onLine = false →
      exec (.txdataReport line) s = .next u.evaluate) ∧
    (s.hwi.line = some ⟨bits, .streamFill c⟩ →
      exec (.txdataReport line) s = .next (State.evaluate (u.setChan c
        { ch with counters := ch.counters.set 0 (advance ch.counters[0]) }))) ∧
    (s.hwi.line = some ⟨bits, .streamEnd c⟩ → exec (.txdataReport line) s = .next u.evaluate))

/-- R5, R115, R116, R149: the report of a credit channel's word. The word is paid for, the head advances, a clash marks it,
and a message whose last word was sent becomes one entry and frees its words. A report that finds the word gone
changes nothing but the slot. -/
def Obligations.CreditReportSettlesTheWord : Prop :=
  ∀ (s u : State) (c : Chan) (ch : Channel) (bits line : SlotBits) (clash : Bool), s.resetPin = false →
    s.hwi.line = some ⟨bits, .creditData c⟩ → s.chan c = ch → (clash = true ↔ bits &&& ~~~line ≠ 0) →
    u = { s with
      hwi := { s.hwi with
        line := none
        counters := if clash then s.hwi.counters.set 1 (advance s.hwi.counters[1]) else s.hwi.counters }
      evu := { s.evu with
        latches := if clash then s.evu.latches ||| BitVec.twoPow 7 6 else s.evu.latches } } →
    ((ch.tx.onLine = false ∨ ch.tx.messages = []) →
      exec (.txdataReport line) s = .next (State.evaluate (u.setChan c
        { ch with tx := { ch.tx with onLine := false } }))) ∧
    ∀ m rest credits probe, ch.tx.onLine = true → ch.tx.messages = m :: rest →
      credits = { ch.credits with
        wordUsed := ch.credits.wordUsed + 1
        msgUsed := if m.sent = 0 then ch.credits.msgUsed + 1 else ch.credits.msgUsed } →
      probe = (if m.sent = 0 ∨ m.sent + 1 = m.length then ch.probe.map (fun _ => 0) else ch.probe) →
      (m.sent + 1 ≠ m.length →
        exec (.txdataReport line) s = .next (State.evaluate (u.setChan c
          { ch with
            credits := credits
            probe := probe
            tx := { ch.tx with
              onLine := false
              messages := { m with sent := m.sent + 1, clashed := m.clashed || clash } :: rest } }))) ∧
      (m.sent + 1 = m.length →
        exec (.txdataReport line) s = .next (State.evaluate (({ u with cq := { u.cq with
            entries := u.cq.entries ++
              [{ chan := c, tag := m.tag, status := if m.clashed || clash then .clashed else .sent,
                 restarted := m.restarted, endFrame := s.hwi.frame }] } } : State).setChan c
          { ch with
            credits := credits
            probe := probe
            tx := { ch.tx with
              onLine := false
              messages := rest
              free := (ch.tx.free + m.length) % ch.txRegion.capacity } })))

/-- R53, R66: the offer of the TxControl slot: the queue head, or the first set mark in rising order after the last
position chosen and on from 31 to 0, or nothing.
R67: the report of a control word. After a clean slot the chosen entry leaves the queue and the chosen mark is
cleared; after a clash both stay; an entry replaced or a mark set again during the slot stays whatever the outcome. -/
def Obligations.ControlSlotArbitration : Prop :=
  (∀ (s : State) (n : Slot), s.resetPin = false → s.quiet = true → s.slotReady n = true → s.entryOf n = .txControl →
    (∀ e rest, s.lnk.queue = e :: rest →
      exec (.txcontrolOffer n) s = .next (State.evaluate { s with
        lnk := { s.lnk with queue := { e with chosen := true } :: rest }
        hwi := { s.hwi with
          position := .served n.val
          line := some ⟨slotWord .control
            (controlPayload e.destStation e.destChannel e.opcode (BitVec.ofNat 5 e.chan.val)), .control⟩ } })) ∧
    (∀ (p : Fin 32) (d : Nat) (c : Chan), s.lnk.queue = [] → c.val = p.val / 2 → d < 32 →
      p.val = (s.lnk.lastPosition.val + 1 + d) % 32 → (s.markAt p).set = true →
      (∀ (q : Fin 32) (j : Nat), j < d → q.val = (s.lnk.lastPosition.val + 1 + j) % 32 →
        (s.markAt q).set = false) →
      ∃ t, exec (.txcontrolOffer n) s = .next (State.evaluate t) ∧
        t = ({ s with
          lnk := { s.lnk with lastPosition := p }
          hwi := { s.hwi with
            position := .served n.val
            line := some ⟨slotWord .control
              (if p.val % 2 = 0 then
                controlPayload (s.chan c).config.peerStation (s.chan c).config.peerChannel .wordLevel
                  (s.chan c).credits.wordGranted
              else controlPayload (s.chan c).config.peerStation (s.chan c).config.peerChannel .msgLevel
                  (s.chan c).credits.msgGranted), .control⟩ } } : State).setChan c (t.chan c) ∧
        t.chan c =
          (if p.val % 2 = 0 then { s.chan c with wordMark := { (s.chan c).wordMark with chosen := true } }
          else { s.chan c with msgMark := { (s.chan c).msgMark with chosen := true } })) ∧
    (s.lnk.queue = [] → (∀ p : Fin 32, (s.markAt p).set = false) →
      exec (.txcontrolOffer n) s = .next (State.evaluate { s with hwi := { s.hwi with position := .served n.val } })) ∧
    ∀ p : Fin 32, s.markAt p =
      (if p.val % 2 = 0 then (s.chan (Fin.ofNat 16 (p.val / 2))).wordMark
      else (s.chan (Fin.ofNat 16 (p.val / 2))).msgMark)) ∧
  (∀ (s : State) (bits line : SlotBits) (clash : Bool), s.resetPin = false →
    s.hwi.line = some ⟨bits, .control⟩ → (clash = true ↔ bits &&& ~~~line ≠ 0) →
    ∃ t, exec (.txcontrolReport line) s = .next t ∧
      t = State.evaluate { s with
        hwi := { s.hwi with
          line := none
          counters := if clash then s.hwi.counters.set 1 (advance s.hwi.counters[1]) else s.hwi.counters }
        evu := { s.evu with
          latches := if clash then s.evu.latches ||| BitVec.twoPow 7 6 else s.evu.latches }
        lnk := { s.lnk with
          queue := if clash then s.lnk.queue.map (fun e => { e with chosen := false })
            else s.lnk.queue.filter (fun e => !e.chosen) }
        chans := t.chans } ∧
      ∀ c : Chan, t.chan c = { s.chan c with
        wordMark := if (s.chan c).wordMark.chosen then { set := clash, chosen := false } else (s.chan c).wordMark
        msgMark := if (s.chan c).msgMark.chosen then { set := clash, chosen := false } else (s.chan c).msgMark })

/-- R6, R23, R130, R131: a word of an RxData slot. Data words of a receiving channel go to its record assembly, whose
word, if stored, is written at the store position of the RX region.
R24: a word of an Unused slot. -/
def Obligations.ReceivedDataWordsAreDisposed : Prop :=
  (∀ (s u : State) (n : Slot) (c : Chan) (ch : Channel) (line : SlotBits), s.resetPin = false → s.quiet = true →
    s.slotReady n = true → s.entryOf n = .rxData c → s.chan c = ch →
    u = { s with hwi := { s.hwi with position := .served n.val } } →
    (receive line = .checkError →
      ∀ v, v = { u with
        hwi := { u.hwi with counters := s.hwi.counters.set 0 (advance s.hwi.counters[0]) }
        evu := { s.evu with latches := s.evu.latches ||| BitVec.twoPow 7 6 } } →
      (ch.receiving = false → exec (.rxdataWord n line) s = .next (State.evaluate v)) ∧
      (ch.receiving = true → ch.config.mode = .stream →
        exec (.rxdataWord n line) s = .next (State.evaluate (v.setChan c ch.damageOpen))) ∧
      (ch.receiving = true → ch.config.mode = .credit →
        exec (.rxdataWord n line) s = .next (State.evaluate (v.setChan c
          (if ch.credits.outstandingWords = 0 then ch
          else { ch with credits := { ch.credits with
            wordCounted := ch.credits.wordCounted + 1 } }).damageOpen.grant)))) ∧
    (∀ p, (receive line = .word .idle p ∨ receive line = .word .fill p) →
      exec (.rxdataWord n line) s = .next u.evaluate) ∧
    (∀ p, (receive line = .word .control p ∨ receive line = .word .header p) →
      exec (.rxdataWord n line) s = .next (State.evaluate { u with hwi := { u.hwi with
        counters := s.hwi.counters.set 6 (advance s.hwi.counters[6]) } })) ∧
    (∀ k p, receive line = .word k p → k.isData = true → ch.receiving = false →
      exec (.rxdataWord n line) s = .next (State.evaluate { u with hwi := { u.hwi with
        counters := s.hwi.counters.set 5 (advance s.hwi.counters[5]) } })) ∧
    (∀ k p, receive line = .word k p → k.isData = true → ch.receiving = true →
      ∀ ch' stored, (match ch.config.mode with
        | .credit => ch.creditWord s.hwi.frame k
        | .stream => ch.streamWord s.hwi.frame k) = (ch', stored) →
      (stored = true → ch.rxStoreAddr < 4096) →
      exec (.rxdataWord n line) s = .next (State.evaluate (({ u with
        memory := if stored then Memory.write s.memory ch.rxStoreAddr p else s.memory } : State).setChan c ch'))) ∧
    (∀ k, k.isData = true →
      (ch.rxRegion.size = 0 → ch.streamWord s.hwi.frame k =
        ({ ch with counters := ch.counters.set 1 (advance ch.counters[1]) }, false)) ∧
      (ch.rxRegion.size ≠ 0 → ch.rx.discard = true → k.starts = false → ch.streamWord s.hwi.frame k =
        ({ ch with rx := { ch.rx with discard := !(k == .last) } }, false)) ∧
      (ch.rxRegion.size ≠ 0 → (ch.rx.discard = false ∨ k.starts = true) → ch.streamWord s.hwi.frame k =
        ({ ch with rx := { ch.rx with discard := false } } : Channel).assemble s.hwi.frame k))) ∧
  (∀ (s u : State) (n : Slot) (line : SlotBits), s.resetPin = false → s.quiet = true → s.slotReady n = true →
    s.entryOf n = .unused → u = { s with hwi := { s.hwi with position := .served n.val } } →
    ((receive line = .checkError ∨ ∃ p, receive line = .word .idle p ∨ receive line = .word .fill p ∨
        receive line = .word .control p) → exec (.unusedSlotWord n line) s = .next u.evaluate) ∧
    (∀ k p, receive line = .word k p → k.isData = true →
      exec (.unusedSlotWord n line) s = .next (State.evaluate { u with hwi := { u.hwi with
        counters := s.hwi.counters.set 5 (advance s.hwi.counters[5]) } })) ∧
    (∀ p, receive line = .word .header p →
      exec (.unusedSlotWord n line) s = .next (State.evaluate { u with hwi := { u.hwi with
        counters := s.hwi.counters.set 6 (advance s.hwi.counters[6]) } })))

/-- R54, R55, R58: a word of an RxControl slot from station `p`: kind, destination, form, and a word that matches no
channel. -/
def Obligations.RxControlWordIsDisposed : Prop :=
  ∀ (s u : State) (n : Slot) (p : Address) (line : SlotBits), s.resetPin = false → s.quiet = true →
    s.slotReady n = true → s.entryOf n = .rxControl p →
    u = { s with hwi := { s.hwi with position := .served n.val } } →
    (receive line = .checkError →
      exec (.rxcontrolWord n line) s = .next (State.evaluate { u with
        hwi := { u.hwi with counters := s.hwi.counters.set 0 (advance s.hwi.counters[0]) }
        evu := { s.evu with latches := s.evu.latches ||| BitVec.twoPow 7 6 } })) ∧
    (∀ w, receive line = .word .idle w → exec (.rxcontrolWord n line) s = .next u.evaluate) ∧
    (∀ k w, receive line = .word k w → k ≠ .idle → k ≠ .control →
      exec (.rxcontrolWord n line) s = .next (State.evaluate { u with hwi := { u.hwi with
        counters := s.hwi.counters.set 6 (advance s.hwi.counters[6]) } })) ∧
    ∀ st cf op v c ch, receive line = .word .control (controlPayload st cf op v) → c.val = cf.toNat →
      s.chan c = ch →
      (st ≠ s.hwi.station → exec (.rxcontrolWord n line) s = .next u.evaluate) ∧
      (st = s.hwi.station → op ≠ .wordLevel → op ≠ .msgLevel → 16 ≤ v.toNat →
        exec (.rxcontrolWord n line) s = .next (State.evaluate { u with hwi := { u.hwi with
          counters := s.hwi.counters.set 7 (advance s.hwi.counters[7]) } })) ∧
      (st = s.hwi.station → (v.toNat < 16 ∨ op = .wordLevel ∨ op = .msgLevel) →
        ((ch.config.mode = .credit ∧ ch.config.peerStation = p ∧
            (op = .wordLevel ∨ op = .msgLevel ∨ v.toNat = ch.config.peerChannel.toNat)) →
          exec (.rxcontrolWord n line) s = .next (u.matchedWord c op v).evaluate) ∧
        (¬ (ch.config.mode = .credit ∧ ch.config.peerStation = p ∧
            (op = .wordLevel ∨ op = .msgLevel ∨ v.toNat = ch.config.peerChannel.toNat)) →
          exec (.rxcontrolWord n line) s = .next (State.evaluate { u with
            hwi := { u.hwi with counters := s.hwi.counters.set 8 (advance s.hwi.counters[8]) }
            lnk := { s.lnk with
              queue := if (op = .open_ ∨ op = .openAck ∨ op = .close) ∧
                  (∀ e ∈ s.lnk.queue, e.isFor c .response = false) then
                  s.lnk.queue ++ [⟨c, .response, .reset, p, v.setWidth 4, false⟩]
                else s.lnk.queue } })))

/-- R57, R80 to R86, Table 24: what a matched word does to the link state, the cause, the reply and the credit view, by
the state found.
R86, R104, R107: a Probe sets the two marks, a level word replaces the level heard and sets the probe count to 0 at once when
it ends starvation; each does nothing else, and outside the connected states nothing at all.
R73, R74, R82 to R85: the transition that each word orders, with its reply queued before it. The TX free position after the
flush of a refused open is read from R42 (log entry 17). -/
def Obligations.MatchedWordsFollowTable24 : Prop :=
  (∀ (s : State) (c : Chan) (op : Opcode) (v : BitVec 5) (ch ch' : Channel), s.chan c = ch →
    (s.matchedWord c op v).chan c = ch' → ch.config.mode = .credit →
    ch'.link.state = linkAfter ch.link.state op ch.tx.messages.isEmpty ∧
    ch'.link.cause = (causeAfter ch.link.state op ch.tx.messages.isEmpty).getD ch.link.cause ∧
    ch'.config = ch.config ∧ ch'.counters = ch.counters ∧ ch'.txRegion = ch.txRegion ∧ ch'.rxRegion = ch.rxRegion ∧
    (∀ r, replyTo ch.link.state op ch.tx.messages.isEmpty = some r →
      (s.matchedWord c op v).lnk.queue.filter (fun e => decide (e.cls = .response)) =
        enqueue (s.lnk.queue.filter (fun e => decide (e.cls = .response)))
          ⟨c, .response, r, ch.config.peerStation, ch.config.peerChannel, false⟩) ∧
    (replyTo ch.link.state op ch.tx.messages.isEmpty = none →
      (s.matchedWord c op v).lnk.queue.filter (fun e => decide (e.cls = .response)) =
        s.lnk.queue.filter (fun e => decide (e.cls = .response))) ∧
    (op = .probe → ch.link.state.connected = true → ch' = { ch with
      wordMark := { set := true, chosen := false }, msgMark := { set := true, chosen := false } }) ∧
    (op = .wordLevel → ch.link.state.connected = true →
      ch'.credits = { ch.credits with wordHeard := v } ∧ ch'.tx = ch.tx ∧ ch'.rx = ch.rx) ∧
    (op = .msgLevel → ch.link.state.connected = true →
      ch'.credits = { ch.credits with msgHeard := v } ∧ ch'.tx = ch.tx ∧ ch'.rx = ch.rx) ∧
    ((op = .probe ∨ op = .wordLevel ∨ op = .msgLevel) → ch.link.state.connected = false → ch' = ch) ∧
    (∀ d : Chan, d ≠ c → (s.matchedWord c op v).chan d = s.chan d) ∧
    (s.matchedWord c op v).hwi = s.hwi ∧ (s.matchedWord c op v).map = s.map ∧
    (s.matchedWord c op v).memory = s.memory ∧ (s.matchedWord c op v).host = s.host) ∧
  ∀ (s : State) (c : Chan) (v : BitVec 5) (ch : Channel) (reply : Opcode → State), s.chan c = ch →
    ch.config.mode = .credit →
    (∀ r, reply r = { s with lnk := { s.lnk with
      queue := enqueue s.lnk.queue ⟨c, .response, r, ch.config.peerStation, ch.config.peerChannel, false⟩ } }) →
    (∀ (starved : Credits → Prop) (word msg : Credits),
      (∀ k, starved k ↔ ∃ m rest, ch.tx.messages = m :: rest ∧ m.sent < m.length ∧
        (k.wordHeard = k.wordUsed ∨ (m.sent = 0 ∧ k.msgHeard = k.msgUsed))) →
      word = { ch.credits with wordHeard := v } → msg = { ch.credits with msgHeard := v } →
      (ch.link.state.connected = true →
        s.matchedWord c .probe v = s.setChan c { ch with
          wordMark := { set := true, chosen := false }, msgMark := { set := true, chosen := false } } ∧
        (starved ch.credits → ¬ starved word →
          s.matchedWord c .wordLevel v = s.setChan c { ch with
            credits := word, probe := ch.probe.map (fun _ => 0) }) ∧
        ((¬ starved ch.credits ∨ starved word) →
          s.matchedWord c .wordLevel v = s.setChan c { ch with credits := word }) ∧
        (starved ch.credits → ¬ starved msg →
          s.matchedWord c .msgLevel v = s.setChan c { ch with
            credits := msg, probe := ch.probe.map (fun _ => 0) }) ∧
        ((¬ starved ch.credits ∨ starved msg) →
          s.matchedWord c .msgLevel v = s.setChan c { ch with credits := msg })) ∧
      (ch.link.state.connected = false →
        s.matchedWord c .probe v = s ∧ s.matchedWord c .wordLevel v = s ∧ s.matchedWord c .msgLevel v = s)) ∧
    ((ch.link.state = .listen ∨ ch.link.state = .opening) →
      s.matchedWord c .open_ v = (reply .openAck).enterOpen c) ∧
    (ch.link.state = .opened → s.matchedWord c .open_ v = s.peerRestart c) ∧
    ((ch.link.state = .drain ∨ ch.link.state = .closeWait ∨ ch.link.state = .yield) →
      s.matchedWord c .open_ v = (reply .reset).closeConnected c .peerReset) ∧
    ((ch.link.state = .closed ∨ ch.link.state = .fault) → s.matchedWord c .open_ v = reply .reset) ∧
    (ch.link.state = .opening → s.matchedWord c .openAck v = s.enterOpen c) ∧
    (ch.link.state = .closed → s.matchedWord c .openAck v = reply .reset) ∧
    (ch.link.state ≠ .opening → ch.link.state ≠ .closed → s.matchedWord c .openAck v = s) ∧
    (ch.link.state = .opened → ch.tx.messages = [] →
      s.matchedWord c .close v = (reply .closeAck).closeConnected c .closed) ∧
    (ch.link.state = .opened → ch.tx.messages ≠ [] →
      s.matchedWord c .close v = s.setChan c { ch with
        link := { ch.link with state := .yield }
        tx := { ch.tx with composing := 0, spoiled := false }
        latches := ch.latches ||| BitVec.twoPow 4 0 }) ∧
    (ch.link.state = .drain →
      s.matchedWord c .close v = s.setChan c { ch with
        link := { ch.link with state := .yield }, latches := ch.latches ||| BitVec.twoPow 4 0 }) ∧
    ((ch.link.state = .closeWait ∨ ch.link.state = .closed) → s.matchedWord c .close v = reply .closeAck) ∧
    ((ch.link.state = .listen ∨ ch.link.state = .opening ∨ ch.link.state = .fault) →
      s.matchedWord c .close v = reply .reset) ∧
    (ch.link.state = .yield → s.matchedWord c .close v = s) ∧
    (ch.link.state = .closeWait → s.matchedWord c .closeAck v = s.closeConnected c .closed) ∧
    (ch.link.state ≠ .closeWait → s.matchedWord c .closeAck v = s) ∧
    (ch.link.state.connected = true → s.matchedWord c .reset v = s.closeConnected c .peerReset) ∧
    ((ch.link.state = .closed ∨ ch.link.state = .listen ∨ ch.link.state = .fault) →
      s.matchedWord c .reset v = s) ∧
    (ch.link.state = .opening → ∀ (tx : TxSide) (es : List CqEntry),
      es = ch.tx.messages.map (fun m => m.entry c .flushed s.hwi.frame) →
      tx = { ch.tx with free := if ch.tx.held = 0 then ch.tx.free else 0, messages := [], composing := 0,
                        spoiled := false, onLine := false } →
      s.matchedWord c .reset v = ({ s with
          cq := { s.cq with entries := s.cq.entries ++ es }
          lnk := { s.lnk with
            queue := s.lnk.queue.filter (fun e => !(e.isFor c .request && e.opcode == .open_)) } } :
              State).setChan c { ch with
          link := { ch.link with state := .fault, cause := .refused, answerTimer := none }
          probe := none
          tx := tx
          latches := ch.latches ||| BitVec.twoPow 4 0 })
end

