-- ==== Sys2Proof/Laws/Channel.lean ====
section
/-! SUPPORT. What the operations on one channel do: records, new regions, command codes, grants, counters. -/

namespace Sys2Proof.Machine

/-! ### The newest record (08 R128) -/

/-- The open record is the last of the list and is incomplete. -/
theorem RxSide.openRecord_some {x : RxSide} {r : RxRecord} (h : x.openRecord = some r) :
    x.records.getLast? = some r ∧ r.complete = false := by
  unfold RxSide.openRecord at h
  split at h
  · rename_i q hq
    split at h
    · simp at h
    · simp only [Option.some.injEq] at h
      subst h
      rename_i hc
      exact ⟨hq, by simpa using hc⟩
  · simp at h

/-- Changing the newest record changes the last of the list and nothing else. -/
theorem updateNewest_eq (f : RxRecord → RxRecord) {l : List RxRecord} {r : RxRecord} (h : l.getLast? = some r) :
    updateNewest f l = l.dropLast ++ [f r] := by
  induction l with
  | nil => simp at h
  | cons a l ih =>
    cases l with
    | nil =>
      simp only [List.getLast?_singleton, Option.some.injEq] at h
      subst h
      rfl
    | cons b l =>
      simp only [updateNewest, List.dropLast_cons_cons, List.cons_append]
      rw [ih (by simpa using h)]

/-- Changing the newest record keeps the number of records. -/
@[simp] theorem length_updateNewest (f : RxRecord → RxRecord) (l : List RxRecord) :
    (updateNewest f l).length = l.length := by
  induction l with
  | nil => rfl
  | cons a l ih =>
    cases l with
    | nil => rfl
    | cons b l => simpa [updateNewest] using ih

/-- A record list with its newest record incomplete has that record open. -/
theorem RxSide.openRecord_append (free : Nat) (l : List RxRecord) (r : RxRecord) (d : Bool)
    (h : r.complete = false) : RxSide.openRecord ⟨free, l ++ [r], d⟩ = some r := by
  simp [RxSide.openRecord, h]

/-- Closing a channel with no open record changes nothing (08 R129). -/
theorem Channel.closeOpen_none (ch : Channel) (mark : RxFlags → RxFlags) (last : Option Word)
    (h : ch.rx.openRecord = none) : ch.closeOpen mark last = ch := by simp [Channel.closeOpen, h]

/-- Closing an open record: the record is complete with its flags marked, RxTrouble is raised when a flag is set, and
nothing else changes (08 R129). -/
theorem Channel.closeOpen_some (ch : Channel) (mark : RxFlags → RxFlags) (last : Option Word) {r : RxRecord}
    (h : ch.rx.openRecord = some r) :
    ch.closeOpen mark last =
      { ch with
        rx := { ch.rx with records := ch.rx.records.dropLast ++
          [{ r with complete := true, flags := mark r.flags, lastFrame := last }] }
        latches := if (mark r.flags).any then ch.latches ||| BitVec.twoPow 4 3 else ch.latches } := by
  have e := updateNewest_eq (fun q => { q with complete := true, flags := mark r.flags, lastFrame := last })
    (RxSide.openRecord_some h).1
  by_cases ha : (mark r.flags).any = true
  · simp [Channel.closeOpen, h, ha, Channel.modNewest, Channel.raise, ChEvent.position, e]
  · simp [Channel.closeOpen, h, ha, Channel.modNewest, e]

/-- Marking the open record Damaged changes the newest record's flag, and nothing when no record is open (08 R131). -/
theorem Channel.damageOpen_eq (ch : Channel) :
    (ch.rx.openRecord = none → ch.damageOpen = ch) ∧
      ∀ r, ch.rx.openRecord = some r → ch.damageOpen = { ch with rx := { ch.rx with
        records := ch.rx.records.dropLast ++ [{ r with flags := { r.flags with damaged := true } }] } } := by
  refine ⟨fun h => by simp [Channel.damageOpen, h], fun r h => ?_⟩
  simp [Channel.damageOpen, h, Channel.modNewest, updateNewest_eq _ (RxSide.openRecord_some h).1]

/-! ### New regions (03 R42, R45) -/

@[simp] theorem Channel.giveTxRegion_link (ch : Channel) (r : Region) : (ch.giveTxRegion r).link = ch.link := rfl
@[simp] theorem Channel.giveTxRegion_config (ch : Channel) (r : Region) : (ch.giveTxRegion r).config = ch.config := rfl
@[simp] theorem Channel.giveTxRegion_txRegion (ch : Channel) (r : Region) : (ch.giveTxRegion r).txRegion = r := rfl
@[simp] theorem Channel.giveTxRegion_rxRegion (ch : Channel) (r : Region) :
    (ch.giveTxRegion r).rxRegion = ch.rxRegion := rfl
@[simp] theorem Channel.giveTxRegion_tx (ch : Channel) (r : Region) :
    (ch.giveTxRegion r).tx = { ch.tx with free := 0 } := rfl
@[simp] theorem Channel.giveTxRegion_rx (ch : Channel) (r : Region) : (ch.giveTxRegion r).rx = ch.rx := rfl
@[simp] theorem Channel.giveTxRegion_credits (ch : Channel) (r : Region) :
    (ch.giveTxRegion r).credits = ch.credits := rfl
@[simp] theorem Channel.giveTxRegion_probe (ch : Channel) (r : Region) : (ch.giveTxRegion r).probe = ch.probe := rfl
@[simp] theorem Channel.giveTxRegion_latches (ch : Channel) (r : Region) :
    (ch.giveTxRegion r).latches = ch.latches := rfl
@[simp] theorem Channel.giveTxRegion_counters (ch : Channel) (r : Region) :
    (ch.giveTxRegion r).counters = ch.counters := rfl
@[simp] theorem Channel.giveRxRegion_link (ch : Channel) (r : Region) : (ch.giveRxRegion r).link = ch.link := rfl
@[simp] theorem Channel.giveRxRegion_config (ch : Channel) (r : Region) : (ch.giveRxRegion r).config = ch.config := rfl
@[simp] theorem Channel.giveRxRegion_txRegion (ch : Channel) (r : Region) :
    (ch.giveRxRegion r).txRegion = ch.txRegion := rfl
@[simp] theorem Channel.giveRxRegion_rxRegion (ch : Channel) (r : Region) : (ch.giveRxRegion r).rxRegion = r := rfl
@[simp] theorem Channel.giveRxRegion_tx (ch : Channel) (r : Region) : (ch.giveRxRegion r).tx = ch.tx := rfl
@[simp] theorem Channel.giveRxRegion_rx (ch : Channel) (r : Region) :
    (ch.giveRxRegion r).rx = { ch.rx with free := 0 } := rfl
@[simp] theorem Channel.giveRxRegion_credits (ch : Channel) (r : Region) :
    (ch.giveRxRegion r).credits = ch.credits := rfl
@[simp] theorem Channel.giveRxRegion_probe (ch : Channel) (r : Region) : (ch.giveRxRegion r).probe = ch.probe := rfl
@[simp] theorem Channel.giveRxRegion_latches (ch : Channel) (r : Region) :
    (ch.giveRxRegion r).latches = ch.latches := rfl
@[simp] theorem Channel.giveRxRegion_counters (ch : Channel) (r : Region) :
    (ch.giveRxRegion r).counters = ch.counters := rfl

/-! ### Command codes (11 R173) -/

/-- The decoder makes a command of its own of exactly the codes that R173 lists. -/
theorem codeListed_eq_listedCode (port : CmdPort) (w : Word) : codeListed port w = listedCode port w := by
  have h : (w.extractLsb' 0 4).toNat < 16 := (w.extractLsb' 0 4).isLt
  rw [Bool.eq_iff_iff]
  cases port <;>
    simp only [codeListed, listedCode, decide_eq_true_eq, Bool.and_eq_true] <;>
    simp only [deviceCommandOfWord, channelCommandOfWord, commandCode] <;>
    generalize (w.extractLsb' 0 4).toNat = k at h ⊢ <;>
    interval_cases k <;> simp

/-! ### Grants (06 R96) -/

/-- Five-bit totals: adding a grant that fits adds to the difference. -/
theorem toNat_grant_sub (g c : BitVec 5) (n : Nat) (h : (g - c).toNat + n < 32) :
    (g + BitVec.ofNat 5 n - c).toNat = (g - c).toNat + n := by
  have e : g + BitVec.ofNat 5 n - c = (g - c) + BitVec.ofNat 5 n := by
    rw [BitVec.sub_eq_add_neg, BitVec.sub_eq_add_neg, BitVec.add_assoc, BitVec.add_comm (BitVec.ofNat 5 n),
      BitVec.add_assoc]
  rw [e, BitVec.toNat_add, BitVec.toNat_ofNat, Nat.mod_eq_of_lt (a := n) (by omega)]
  exact Nat.mod_eq_of_lt h

/-- A grant changes the granted totals and the marks, and nothing else. -/
theorem Channel.grant_shape (ch : Channel) :
    ch.grant = { ch with
      credits := { ch.credits with wordGranted := ch.grant.credits.wordGranted,
                                   msgGranted := ch.grant.credits.msgGranted }
      wordMark := ch.grant.wordMark
      msgMark := ch.grant.msgMark } := by
  unfold Channel.grant
  split <;> rfl

/-- After a grant Ow is the room there is, at most 31, and the word mark is set when Ow rose. -/
theorem Channel.grant_words (ch : Channel) (hc : ch.creditConnected = true)
    (h : ch.rx.held + ch.credits.outstandingWords ≤ ch.rxRegion.capacity) :
    ch.grant.credits.outstandingWords = min (ch.rxRegion.capacity - ch.rx.held) 31 ∧
      ch.grant.wordMark =
        if ch.credits.outstandingWords < min (ch.rxRegion.capacity - ch.rx.held) 31 then Mark.raised
        else ch.wordMark := by
  have h31 : ch.credits.outstandingWords ≤ 31 :=
    Nat.le_of_lt_succ (ch.credits.wordGranted - ch.credits.wordCounted).isLt
  refine ⟨?_, ?_⟩
  · simp only [Channel.grant, hc, if_true, Credits.outstandingWords, Channel.wordGrant] at *
    rw [toNat_grant_sub] <;> omega
  · simp only [Channel.grant, hc, if_true, Channel.wordGrant]
    congr 1
    simp only [eq_iff_iff]
    omega

/-- After a grant Om is the number of free records, and the message mark is set when Om rose. -/
theorem Channel.grant_messages (ch : Channel) (hc : ch.creditConnected = true)
    (h : ch.rx.records.length + ch.credits.outstandingMsgs ≤ 16) :
    ch.grant.credits.outstandingMsgs = 16 - ch.rx.records.length ∧
      ch.grant.msgMark =
        if ch.credits.outstandingMsgs < 16 - ch.rx.records.length then Mark.raised else ch.msgMark := by
  refine ⟨?_, ?_⟩
  · simp only [Channel.grant, hc, if_true, Credits.outstandingMsgs, Channel.msgGrant, Config.maxRecords] at *
    rw [toNat_grant_sub] <;> omega
  · simp only [Channel.grant, hc, if_true, Channel.msgGrant, Config.maxRecords]
    congr 1
    simp only [eq_iff_iff]
    omega

/-- No grant is made outside the connected states of credit channels (06 R97). -/
theorem Channel.grant_of_not_connected (ch : Channel) (h : ch.creditConnected = false) : ch.grant = ch := by
  simp [Channel.grant, h]

/-! ### Counters (00 section 3.3) -/

/-- An advance never lowers a counter. -/
theorem toNat_le_advance (v : BitVec 8) : v.toNat ≤ (advance v).toNat := by
  unfold advance
  split
  · exact Nat.le_refl _
  · rename_i h
    have h1 : v.toNat < 256 := v.isLt
    have h2 : v.toNat ≠ 255 := fun hh => h (BitVec.eq_of_toNat_eq (by simpa using hh))
    have e : (v + 1).toNat = (v.toNat + 1) % 256 := BitVec.toNat_add v 1
    omega

/-! ### The word with one bit for each channel -/

/-- Bit c of the word is given by channel c. -/
theorem getLsbD_perChannel (f : Chan → Bool) (c : Chan) : (perChannel f).getLsbD c.val = f c := by
  simp [perChannel]

end Sys2Proof.Machine
end

