-- ==== Sys2Proof/Laws/Memory.lean ====
section
/-! SUPPORT. The Buffer Memory: what a read gives after a write, and that every memory operation keeps the canonical
form (03 R42). -/

namespace Sys2Proof.Machine

/-- A read at an address below every listed one finds nothing listed. -/
theorem Memory.read_below {lo a : Nat} {m : Memory} (h : Memory.wfFrom lo m = true) (ha : a < lo) :
    Memory.read m a = Config.unwrittenWord := by
  induction m generalizing lo with
  | nil => rfl
  | cons p rest ih =>
    obtain ⟨k, v⟩ := p
    simp only [Memory.wfFrom, Bool.and_eq_true, decide_eq_true_eq] at h
    obtain ⟨⟨hk, -⟩, hr⟩ := h
    rw [Memory.read, if_neg (by omega)]
    exact ih hr (by omega)

/-- The form from a higher bound is the form from a lower one. -/
theorem Memory.wfFrom_mono {lo lo' : Nat} {m : Memory} (h : Memory.wfFrom lo m = true) (hl : lo' ≤ lo) :
    Memory.wfFrom lo' m = true := by
  cases m with
  | nil => rfl
  | cons p rest =>
    obtain ⟨k, v⟩ := p
    simp only [Memory.wfFrom, Bool.and_eq_true, decide_eq_true_eq] at h ⊢
    exact ⟨⟨by omega, h.1.2⟩, h.2⟩

/-- The word written is the word read. -/
theorem Memory.read_write_same {lo a : Nat} {m : Memory} (w : Word) (h : Memory.wfFrom lo m = true) :
    Memory.read (Memory.write m a w) a = w := by
  induction m generalizing lo with
  | nil => by_cases hw : w = Config.unwrittenWord <;> simp [Memory.write, Memory.read, hw]
  | cons p rest ih =>
    obtain ⟨k, v⟩ := p
    simp only [Memory.wfFrom, Bool.and_eq_true, decide_eq_true_eq] at h
    obtain ⟨⟨hk, hv⟩, hr⟩ := h
    unfold Memory.write
    by_cases h1 : a < k
    · by_cases hw : w = Config.unwrittenWord
      · rw [if_pos h1, if_pos hw, hw]
        exact Memory.read_below (lo := k) (by simp [Memory.wfFrom, hv, hr]) h1
      · simp [h1, hw, Memory.read]
    · by_cases h2 : a = k
      · subst h2
        by_cases hw : w = Config.unwrittenWord
        · simp only [if_neg h1, if_true, if_pos hw]
          rw [Memory.read_below hr (by omega), hw]
        · simp [hw, Memory.read]
      · simp only [if_neg h1, if_neg h2, Memory.read, if_neg (show ¬ k = a by omega)]
        exact ih hr

/-- A write leaves every other word as it is. -/
theorem Memory.read_write_other {a b : Nat} (m : Memory) (w : Word) (h : b ≠ a) :
    Memory.read (Memory.write m a w) b = Memory.read m b := by
  induction m with
  | nil => by_cases hw : w = Config.unwrittenWord <;> simp [Memory.write, Memory.read, hw, h.symm]
  | cons p rest ih =>
    obtain ⟨k, v⟩ := p
    unfold Memory.write
    by_cases h1 : a < k
    · by_cases hw : w = Config.unwrittenWord <;> simp [h1, hw, Memory.read, h.symm]
    · by_cases h2 : a = k
      · subst h2
        by_cases hw : w = Config.unwrittenWord <;> simp [hw, Memory.read, h.symm]
      · simp only [if_neg h1, if_neg h2, Memory.read]
        rw [ih]

/-- A write keeps the form. -/
theorem Memory.wfFrom_write {lo a : Nat} {m : Memory} (w : Word) (h : Memory.wfFrom lo m = true) (ha : lo ≤ a) :
    Memory.wfFrom lo (Memory.write m a w) = true := by
  induction m generalizing lo with
  | nil => by_cases hw : w = Config.unwrittenWord <;> simp [Memory.write, Memory.wfFrom, hw, ha]
  | cons p rest ih =>
    obtain ⟨k, v⟩ := p
    have hp := h
    simp only [Memory.wfFrom, Bool.and_eq_true, decide_eq_true_eq] at h
    obtain ⟨⟨hk, hv⟩, hr⟩ := h
    unfold Memory.write
    by_cases h1 : a < k
    · by_cases hw : w = Config.unwrittenWord
      · simp only [if_pos h1, if_pos hw]
        exact hp
      · simp only [if_pos h1, if_neg hw, Memory.wfFrom, Bool.and_eq_true, decide_eq_true_eq]
        exact ⟨⟨ha, hw⟩, ⟨by omega, hv⟩, hr⟩
    · by_cases h2 : a = k
      · subst h2
        by_cases hw : w = Config.unwrittenWord
        · simp only [if_neg h1, if_true, if_pos hw]
          exact Memory.wfFrom_mono hr (by omega)
        · simp only [if_neg h1, if_true, if_neg hw, Memory.wfFrom, Bool.and_eq_true, decide_eq_true_eq]
          exact ⟨⟨ha, hw⟩, hr⟩
      · simp only [if_neg h1, if_neg h2, Memory.wfFrom, Bool.and_eq_true, decide_eq_true_eq]
        exact ⟨⟨hk, hv⟩, ih hr (by omega)⟩

/-- The addresses listed after a write are old ones or the one written. -/
theorem Memory.mem_write {p : Nat × Word} {m : Memory} {a : Nat} {w : Word} (h : p ∈ Memory.write m a w) :
    p ∈ m ∨ p = (a, w) := by
  induction m with
  | nil =>
    by_cases hw : w = Config.unwrittenWord <;> simp [Memory.write, hw] at h
    exact .inr h
  | cons q rest ih =>
    obtain ⟨k, v⟩ := q
    unfold Memory.write at h
    split at h
    · split at h
      · exact .inl h
      · rcases List.mem_cons.mp h with h | h
        · exact .inr h
        · exact .inl h
    · split at h
      · split at h
        · exact .inl (List.mem_cons_of_mem _ h)
        · rcases List.mem_cons.mp h with h | h
          · exact .inr h
          · exact .inl (List.mem_cons_of_mem _ h)
      · rcases List.mem_cons.mp h with h | h
        · exact .inl (h ▸ List.mem_cons_self)
        · rcases ih h with h | h
          · exact .inl (List.mem_cons_of_mem _ h)
          · exact .inr h

/-- A write inside the memory keeps the canonical form. -/
theorem Memory.wf_write {m : Memory} {a : Nat} (w : Word) (h : Memory.wf m = true) (ha : a < Config.bufferWords) :
    Memory.wf (Memory.write m a w) = true := by
  simp only [Memory.wf, Bool.and_eq_true, List.all_eq_true, decide_eq_true_eq] at h ⊢
  refine ⟨Memory.wfFrom_write w h.1 (Nat.zero_le _), fun p hp => ?_⟩
  rcases Memory.mem_write hp with hp | rfl
  · exact h.2 p hp
  · exact ha

/-- The word written is the word read, in a memory of canonical form. -/
theorem Memory.read_write_of_wf {m : Memory} (a : Nat) (w : Word) (h : Memory.wf m = true) :
    Memory.read (Memory.write m a w) a = w := by
  simp only [Memory.wf, Bool.and_eq_true] at h
  exact Memory.read_write_same w h.1

/-- Memories of canonical form that read alike are equal. -/
theorem Memory.ext_of_wfFrom {m m' : Memory} {lo : Nat} (h : Memory.wfFrom lo m = true)
    (h' : Memory.wfFrom lo m' = true) (hr : ∀ a, Memory.read m a = Memory.read m' a) : m = m' := by
  induction m generalizing m' lo with
  | nil =>
    cases m' with
    | nil => rfl
    | cons q rest' =>
      obtain ⟨k, v⟩ := q
      simp only [Memory.wfFrom, Bool.and_eq_true, decide_eq_true_eq] at h'
      have := hr k
      simp only [Memory.read, if_true] at this
      exact absurd this.symm h'.1.2
  | cons p rest ih =>
    obtain ⟨k, v⟩ := p
    cases m' with
    | nil =>
      simp only [Memory.wfFrom, Bool.and_eq_true, decide_eq_true_eq] at h
      have := hr k
      simp only [Memory.read, if_true] at this
      exact absurd this h.1.2
    | cons q rest' =>
      obtain ⟨k', v'⟩ := q
      simp only [Memory.wfFrom, Bool.and_eq_true, decide_eq_true_eq] at h h'
      obtain ⟨⟨hk, hv⟩, hrest⟩ := h
      obtain ⟨⟨hk', hv'⟩, hrest'⟩ := h'
      have hkk : k = k' := by
        rcases Nat.lt_trichotomy k k' with hlt | heq | hgt
        · have := hr k
          simp only [Memory.read, if_true, if_neg (show ¬ k' = k by omega)] at this
          rw [Memory.read_below hrest' (by omega)] at this
          exact absurd this hv
        · exact heq
        · have := hr k'
          simp only [Memory.read, if_true, if_neg (show ¬ k = k' by omega)] at this
          rw [Memory.read_below hrest (by omega)] at this
          exact absurd this.symm hv'
      subst hkk
      have hvv : v = v' := by simpa [Memory.read] using hr k
      subst hvv
      rw [ih hrest hrest' (fun a => ?_)]
      by_cases ha : k = a
      · subst ha
        rw [Memory.read_below hrest (by omega), Memory.read_below hrest' (by omega)]
      · simpa [Memory.read, ha] using hr a

/-- The memory after RESET# has the canonical form. -/
theorem reset_memory_wf : Memory.wf State.reset.memory = true := rfl

end Sys2Proof.Machine
end

