-- ==== Sys2Proof/Laws/State.lean ====
section
/-! SUPPORT. One lemma per field of the state for each named update of it, true by unfolding. -/

namespace Sys2Proof.Machine

variable (s : State)

/-! ### setChan -/

@[simp] theorem State.setChan_resetPin (c : Chan) (ch : Channel) :
    (s.setChan c ch).resetPin = s.resetPin := rfl
@[simp] theorem State.setChan_host (c : Chan) (ch : Channel) :
    (s.setChan c ch).host = s.host := rfl
@[simp] theorem State.setChan_hwi (c : Chan) (ch : Channel) :
    (s.setChan c ch).hwi = s.hwi := rfl
@[simp] theorem State.setChan_map (c : Chan) (ch : Channel) :
    (s.setChan c ch).map = s.map := rfl
@[simp] theorem State.setChan_memory (c : Chan) (ch : Channel) :
    (s.setChan c ch).memory = s.memory := rfl
@[simp] theorem State.setChan_chans (c : Chan) (ch : Channel) :
    (s.setChan c ch).chans = s.chans.set c ch := rfl
@[simp] theorem State.setChan_lnk (c : Chan) (ch : Channel) :
    (s.setChan c ch).lnk = s.lnk := rfl
@[simp] theorem State.setChan_cq (c : Chan) (ch : Channel) :
    (s.setChan c ch).cq = s.cq := rfl
@[simp] theorem State.setChan_evu (c : Chan) (ch : Channel) :
    (s.setChan c ch).evu = s.evu := rfl
@[simp] theorem State.setChan_pending (c : Chan) (ch : Channel) :
    (s.setChan c ch).pending = s.pending := rfl

/-! ### modChan -/

@[simp] theorem State.modChan_resetPin (c : Chan) (f : Channel → Channel) :
    (s.modChan c f).resetPin = s.resetPin := rfl
@[simp] theorem State.modChan_host (c : Chan) (f : Channel → Channel) :
    (s.modChan c f).host = s.host := rfl
@[simp] theorem State.modChan_hwi (c : Chan) (f : Channel → Channel) :
    (s.modChan c f).hwi = s.hwi := rfl
@[simp] theorem State.modChan_map (c : Chan) (f : Channel → Channel) :
    (s.modChan c f).map = s.map := rfl
@[simp] theorem State.modChan_memory (c : Chan) (f : Channel → Channel) :
    (s.modChan c f).memory = s.memory := rfl
@[simp] theorem State.modChan_chans (c : Chan) (f : Channel → Channel) :
    (s.modChan c f).chans = s.chans.set c (f (s.chan c)) := rfl
@[simp] theorem State.modChan_lnk (c : Chan) (f : Channel → Channel) :
    (s.modChan c f).lnk = s.lnk := rfl
@[simp] theorem State.modChan_cq (c : Chan) (f : Channel → Channel) :
    (s.modChan c f).cq = s.cq := rfl
@[simp] theorem State.modChan_evu (c : Chan) (f : Channel → Channel) :
    (s.modChan c f).evu = s.evu := rfl
@[simp] theorem State.modChan_pending (c : Chan) (f : Channel → Channel) :
    (s.modChan c f).pending = s.pending := rfl

/-! ### mapChans -/

@[simp] theorem State.mapChans_resetPin (f : Channel → Channel) :
    (s.mapChans f).resetPin = s.resetPin := rfl
@[simp] theorem State.mapChans_host (f : Channel → Channel) :
    (s.mapChans f).host = s.host := rfl
@[simp] theorem State.mapChans_hwi (f : Channel → Channel) :
    (s.mapChans f).hwi = s.hwi := rfl
@[simp] theorem State.mapChans_map (f : Channel → Channel) :
    (s.mapChans f).map = s.map := rfl
@[simp] theorem State.mapChans_memory (f : Channel → Channel) :
    (s.mapChans f).memory = s.memory := rfl
@[simp] theorem State.mapChans_chans (f : Channel → Channel) :
    (s.mapChans f).chans = s.chans.map f := rfl
@[simp] theorem State.mapChans_lnk (f : Channel → Channel) :
    (s.mapChans f).lnk = s.lnk := rfl
@[simp] theorem State.mapChans_cq (f : Channel → Channel) :
    (s.mapChans f).cq = s.cq := rfl
@[simp] theorem State.mapChans_evu (f : Channel → Channel) :
    (s.mapChans f).evu = s.evu := rfl
@[simp] theorem State.mapChans_pending (f : Channel → Channel) :
    (s.mapChans f).pending = s.pending := rfl

/-! ### countHw -/

@[simp] theorem State.countHw_resetPin (k : HwCounter) :
    (s.countHw k).resetPin = s.resetPin := rfl
@[simp] theorem State.countHw_host (k : HwCounter) :
    (s.countHw k).host = s.host := rfl
@[simp] theorem State.countHw_hwi (k : HwCounter) :
    (s.countHw k).hwi = s.hwi.count k := rfl
@[simp] theorem State.countHw_map (k : HwCounter) :
    (s.countHw k).map = s.map := rfl
@[simp] theorem State.countHw_memory (k : HwCounter) :
    (s.countHw k).memory = s.memory := rfl
@[simp] theorem State.countHw_chans (k : HwCounter) :
    (s.countHw k).chans = s.chans := rfl
@[simp] theorem State.countHw_lnk (k : HwCounter) :
    (s.countHw k).lnk = s.lnk := rfl
@[simp] theorem State.countHw_cq (k : HwCounter) :
    (s.countHw k).cq = s.cq := rfl
@[simp] theorem State.countHw_evu (k : HwCounter) :
    (s.countHw k).evu = s.evu := rfl
@[simp] theorem State.countHw_pending (k : HwCounter) :
    (s.countHw k).pending = s.pending := rfl

/-! ### raise -/

@[simp] theorem State.raise_resetPin (e : DevEvent) :
    (s.raise e).resetPin = s.resetPin := rfl
@[simp] theorem State.raise_host (e : DevEvent) :
    (s.raise e).host = s.host := rfl
@[simp] theorem State.raise_hwi (e : DevEvent) :
    (s.raise e).hwi = s.hwi := rfl
@[simp] theorem State.raise_map (e : DevEvent) :
    (s.raise e).map = s.map := rfl
@[simp] theorem State.raise_memory (e : DevEvent) :
    (s.raise e).memory = s.memory := rfl
@[simp] theorem State.raise_chans (e : DevEvent) :
    (s.raise e).chans = s.chans := rfl
@[simp] theorem State.raise_lnk (e : DevEvent) :
    (s.raise e).lnk = s.lnk := rfl
@[simp] theorem State.raise_cq (e : DevEvent) :
    (s.raise e).cq = s.cq := rfl
@[simp] theorem State.raise_evu (e : DevEvent) :
    (s.raise e).evu = { s.evu with latches := s.evu.latches ||| BitVec.twoPow 7 e.position } := rfl
@[simp] theorem State.raise_pending (e : DevEvent) :
    (s.raise e).pending = s.pending := rfl

/-! ### setDeviceResult -/

@[simp] theorem State.setDeviceResult_resetPin (r : CmdResult) :
    (s.setDeviceResult r).resetPin = s.resetPin := rfl
@[simp] theorem State.setDeviceResult_host (r : CmdResult) :
    (s.setDeviceResult r).host = { s.host with deviceResult := r } := rfl
@[simp] theorem State.setDeviceResult_hwi (r : CmdResult) :
    (s.setDeviceResult r).hwi = s.hwi := rfl
@[simp] theorem State.setDeviceResult_map (r : CmdResult) :
    (s.setDeviceResult r).map = s.map := rfl
@[simp] theorem State.setDeviceResult_memory (r : CmdResult) :
    (s.setDeviceResult r).memory = s.memory := rfl
@[simp] theorem State.setDeviceResult_chans (r : CmdResult) :
    (s.setDeviceResult r).chans = s.chans := rfl
@[simp] theorem State.setDeviceResult_lnk (r : CmdResult) :
    (s.setDeviceResult r).lnk = s.lnk := rfl
@[simp] theorem State.setDeviceResult_cq (r : CmdResult) :
    (s.setDeviceResult r).cq = s.cq := rfl
@[simp] theorem State.setDeviceResult_evu (r : CmdResult) :
    (s.setDeviceResult r).evu = s.evu := rfl
@[simp] theorem State.setDeviceResult_pending (r : CmdResult) :
    (s.setDeviceResult r).pending = s.pending := rfl

/-! ### setChannelResult -/

@[simp] theorem State.setChannelResult_resetPin (r : CmdResult) :
    (s.setChannelResult r).resetPin = s.resetPin := rfl
@[simp] theorem State.setChannelResult_host (r : CmdResult) :
    (s.setChannelResult r).host = { s.host with channelResult := r } := rfl
@[simp] theorem State.setChannelResult_hwi (r : CmdResult) :
    (s.setChannelResult r).hwi = s.hwi := rfl
@[simp] theorem State.setChannelResult_map (r : CmdResult) :
    (s.setChannelResult r).map = s.map := rfl
@[simp] theorem State.setChannelResult_memory (r : CmdResult) :
    (s.setChannelResult r).memory = s.memory := rfl
@[simp] theorem State.setChannelResult_chans (r : CmdResult) :
    (s.setChannelResult r).chans = s.chans := rfl
@[simp] theorem State.setChannelResult_lnk (r : CmdResult) :
    (s.setChannelResult r).lnk = s.lnk := rfl
@[simp] theorem State.setChannelResult_cq (r : CmdResult) :
    (s.setChannelResult r).cq = s.cq := rfl
@[simp] theorem State.setChannelResult_evu (r : CmdResult) :
    (s.setChannelResult r).evu = s.evu := rfl
@[simp] theorem State.setChannelResult_pending (r : CmdResult) :
    (s.setChannelResult r).pending = s.pending := rfl

/-! ### enqueueEntry -/

@[simp] theorem State.enqueueEntry_resetPin (e : CtlEntry) :
    (s.enqueueEntry e).resetPin = s.resetPin := rfl
@[simp] theorem State.enqueueEntry_host (e : CtlEntry) :
    (s.enqueueEntry e).host = s.host := rfl
@[simp] theorem State.enqueueEntry_hwi (e : CtlEntry) :
    (s.enqueueEntry e).hwi = s.hwi := rfl
@[simp] theorem State.enqueueEntry_map (e : CtlEntry) :
    (s.enqueueEntry e).map = s.map := rfl
@[simp] theorem State.enqueueEntry_memory (e : CtlEntry) :
    (s.enqueueEntry e).memory = s.memory := rfl
@[simp] theorem State.enqueueEntry_chans (e : CtlEntry) :
    (s.enqueueEntry e).chans = s.chans := rfl
@[simp] theorem State.enqueueEntry_lnk (e : CtlEntry) :
    (s.enqueueEntry e).lnk = { s.lnk with queue := enqueue s.lnk.queue e } := rfl
@[simp] theorem State.enqueueEntry_cq (e : CtlEntry) :
    (s.enqueueEntry e).cq = s.cq := rfl
@[simp] theorem State.enqueueEntry_evu (e : CtlEntry) :
    (s.enqueueEntry e).evu = s.evu := rfl
@[simp] theorem State.enqueueEntry_pending (e : CtlEntry) :
    (s.enqueueEntry e).pending = s.pending := rfl

/-! ### deferProbe -/

@[simp] theorem State.deferProbe_resetPin (d : Chan) :
    (s.deferProbe d).resetPin = s.resetPin := rfl
@[simp] theorem State.deferProbe_host (d : Chan) :
    (s.deferProbe d).host = s.host := rfl
@[simp] theorem State.deferProbe_hwi (d : Chan) :
    (s.deferProbe d).hwi = s.hwi := rfl
@[simp] theorem State.deferProbe_map (d : Chan) :
    (s.deferProbe d).map = s.map := rfl
@[simp] theorem State.deferProbe_memory (d : Chan) :
    (s.deferProbe d).memory = s.memory := rfl
@[simp] theorem State.deferProbe_chans (d : Chan) :
    (s.deferProbe d).chans = s.chans := rfl
@[simp] theorem State.deferProbe_lnk (d : Chan) :
    (s.deferProbe d).lnk = { s.lnk with queue := Machine.deferProbe d s.lnk.queue } := rfl
@[simp] theorem State.deferProbe_cq (d : Chan) :
    (s.deferProbe d).cq = s.cq := rfl
@[simp] theorem State.deferProbe_evu (d : Chan) :
    (s.deferProbe d).evu = s.evu := rfl
@[simp] theorem State.deferProbe_pending (d : Chan) :
    (s.deferProbe d).pending = s.pending := rfl

/-! ### withdraw -/

@[simp] theorem State.withdraw_resetPin (c : Chan) (h : Opcode → Bool) :
    (s.withdraw c h).resetPin = s.resetPin := rfl
@[simp] theorem State.withdraw_host (c : Chan) (h : Opcode → Bool) :
    (s.withdraw c h).host = s.host := rfl
@[simp] theorem State.withdraw_hwi (c : Chan) (h : Opcode → Bool) :
    (s.withdraw c h).hwi = s.hwi := rfl
@[simp] theorem State.withdraw_map (c : Chan) (h : Opcode → Bool) :
    (s.withdraw c h).map = s.map := rfl
@[simp] theorem State.withdraw_memory (c : Chan) (h : Opcode → Bool) :
    (s.withdraw c h).memory = s.memory := rfl
@[simp] theorem State.withdraw_chans (c : Chan) (h : Opcode → Bool) :
    (s.withdraw c h).chans = s.chans := rfl
@[simp] theorem State.withdraw_lnk (c : Chan) (h : Opcode → Bool) :
    (s.withdraw c h).lnk = { s.lnk with queue := s.lnk.queue.filter (fun e => !(e.isFor c .request && h e.opcode)) } := rfl
@[simp] theorem State.withdraw_cq (c : Chan) (h : Opcode → Bool) :
    (s.withdraw c h).cq = s.cq := rfl
@[simp] theorem State.withdraw_evu (c : Chan) (h : Opcode → Bool) :
    (s.withdraw c h).evu = s.evu := rfl
@[simp] theorem State.withdraw_pending (c : Chan) (h : Opcode → Bool) :
    (s.withdraw c h).pending = s.pending := rfl

/-! ### addCompletions -/

@[simp] theorem State.addCompletions_resetPin (es : List CqEntry) :
    (s.addCompletions es).resetPin = s.resetPin := rfl
@[simp] theorem State.addCompletions_host (es : List CqEntry) :
    (s.addCompletions es).host = s.host := rfl
@[simp] theorem State.addCompletions_hwi (es : List CqEntry) :
    (s.addCompletions es).hwi = s.hwi := rfl
@[simp] theorem State.addCompletions_map (es : List CqEntry) :
    (s.addCompletions es).map = s.map := rfl
@[simp] theorem State.addCompletions_memory (es : List CqEntry) :
    (s.addCompletions es).memory = s.memory := rfl
@[simp] theorem State.addCompletions_chans (es : List CqEntry) :
    (s.addCompletions es).chans = s.chans := rfl
@[simp] theorem State.addCompletions_lnk (es : List CqEntry) :
    (s.addCompletions es).lnk = s.lnk := rfl
@[simp] theorem State.addCompletions_cq (es : List CqEntry) :
    (s.addCompletions es).cq = { s.cq with entries := s.cq.entries ++ es } := rfl
@[simp] theorem State.addCompletions_evu (es : List CqEntry) :
    (s.addCompletions es).evu = s.evu := rfl
@[simp] theorem State.addCompletions_pending (es : List CqEntry) :
    (s.addCompletions es).pending = s.pending := rfl

/-! ### enterSlot -/

@[simp] theorem State.enterSlot_resetPin (n : Slot) :
    (s.enterSlot n).resetPin = s.resetPin := rfl
@[simp] theorem State.enterSlot_host (n : Slot) :
    (s.enterSlot n).host = s.host := rfl
@[simp] theorem State.enterSlot_hwi (n : Slot) :
    (s.enterSlot n).hwi = { s.hwi with position := .served n.val } := rfl
@[simp] theorem State.enterSlot_map (n : Slot) :
    (s.enterSlot n).map = s.map := rfl
@[simp] theorem State.enterSlot_memory (n : Slot) :
    (s.enterSlot n).memory = s.memory := rfl
@[simp] theorem State.enterSlot_chans (n : Slot) :
    (s.enterSlot n).chans = s.chans := rfl
@[simp] theorem State.enterSlot_lnk (n : Slot) :
    (s.enterSlot n).lnk = s.lnk := rfl
@[simp] theorem State.enterSlot_cq (n : Slot) :
    (s.enterSlot n).cq = s.cq := rfl
@[simp] theorem State.enterSlot_evu (n : Slot) :
    (s.enterSlot n).evu = s.evu := rfl
@[simp] theorem State.enterSlot_pending (n : Slot) :
    (s.enterSlot n).pending = s.pending := rfl

/-! ### drive -/

@[simp] theorem State.drive_resetPin (n : Slot) (b : SlotBits) (o : LineOwner) :
    (s.drive n b o).resetPin = s.resetPin := rfl
@[simp] theorem State.drive_host (n : Slot) (b : SlotBits) (o : LineOwner) :
    (s.drive n b o).host = s.host := rfl
@[simp] theorem State.drive_hwi (n : Slot) (b : SlotBits) (o : LineOwner) :
    (s.drive n b o).hwi = { s.hwi with position := .served n.val, line := some ⟨b, o⟩ } := rfl
@[simp] theorem State.drive_map (n : Slot) (b : SlotBits) (o : LineOwner) :
    (s.drive n b o).map = s.map := rfl
@[simp] theorem State.drive_memory (n : Slot) (b : SlotBits) (o : LineOwner) :
    (s.drive n b o).memory = s.memory := rfl
@[simp] theorem State.drive_chans (n : Slot) (b : SlotBits) (o : LineOwner) :
    (s.drive n b o).chans = s.chans := rfl
@[simp] theorem State.drive_lnk (n : Slot) (b : SlotBits) (o : LineOwner) :
    (s.drive n b o).lnk = s.lnk := rfl
@[simp] theorem State.drive_cq (n : Slot) (b : SlotBits) (o : LineOwner) :
    (s.drive n b o).cq = s.cq := rfl
@[simp] theorem State.drive_evu (n : Slot) (b : SlotBits) (o : LineOwner) :
    (s.drive n b o).evu = s.evu := rfl
@[simp] theorem State.drive_pending (n : Slot) (b : SlotBits) (o : LineOwner) :
    (s.drive n b o).pending = s.pending := rfl

/-! ### beginFrame -/

@[simp] theorem State.beginFrame_resetPin :
    (s.beginFrame).resetPin = s.resetPin := rfl
@[simp] theorem State.beginFrame_host :
    (s.beginFrame).host = s.host := rfl
@[simp] theorem State.beginFrame_hwi :
    (s.beginFrame).hwi = { s.hwi with frame := s.hwi.frame + 1, position := .header, frameBit := s.hwi.frameBit + 20 * s.slots } := rfl
@[simp] theorem State.beginFrame_map :
    (s.beginFrame).map = s.map := rfl
@[simp] theorem State.beginFrame_memory :
    (s.beginFrame).memory = s.memory := rfl
@[simp] theorem State.beginFrame_chans :
    (s.beginFrame).chans = s.chans := rfl
@[simp] theorem State.beginFrame_lnk :
    (s.beginFrame).lnk = s.lnk := rfl
@[simp] theorem State.beginFrame_cq :
    (s.beginFrame).cq = s.cq := rfl
@[simp] theorem State.beginFrame_evu :
    (s.beginFrame).evu = s.evu := rfl
@[simp] theorem State.beginFrame_pending :
    (s.beginFrame).pending = s.pending := rfl

/-! ### noteHsync -/

@[simp] theorem State.noteHsync_resetPin (k : Nat) :
    (s.noteHsync k).resetPin = s.resetPin := rfl
@[simp] theorem State.noteHsync_host (k : Nat) :
    (s.noteHsync k).host = s.host := rfl
@[simp] theorem State.noteHsync_hwi (k : Nat) :
    (s.noteHsync k).hwi = { s.hwi with hsyncBit := some k } := rfl
@[simp] theorem State.noteHsync_map (k : Nat) :
    (s.noteHsync k).map = s.map := rfl
@[simp] theorem State.noteHsync_memory (k : Nat) :
    (s.noteHsync k).memory = s.memory := rfl
@[simp] theorem State.noteHsync_chans (k : Nat) :
    (s.noteHsync k).chans = s.chans := rfl
@[simp] theorem State.noteHsync_lnk (k : Nat) :
    (s.noteHsync k).lnk = s.lnk := rfl
@[simp] theorem State.noteHsync_cq (k : Nat) :
    (s.noteHsync k).cq = s.cq := rfl
@[simp] theorem State.noteHsync_evu (k : Nat) :
    (s.noteHsync k).evu = s.evu := rfl
@[simp] theorem State.noteHsync_pending (k : Nat) :
    (s.noteHsync k).pending = s.pending := rfl

/-! ### returns -/

@[simp] theorem State.returns_resetPin (w : Word) :
    (s.returns w).resetPin = s.resetPin := rfl
@[simp] theorem State.returns_host (w : Word) :
    (s.returns w).host = { s.host with readData := some w } := rfl
@[simp] theorem State.returns_hwi (w : Word) :
    (s.returns w).hwi = s.hwi := rfl
@[simp] theorem State.returns_map (w : Word) :
    (s.returns w).map = s.map := rfl
@[simp] theorem State.returns_memory (w : Word) :
    (s.returns w).memory = s.memory := rfl
@[simp] theorem State.returns_chans (w : Word) :
    (s.returns w).chans = s.chans := rfl
@[simp] theorem State.returns_lnk (w : Word) :
    (s.returns w).lnk = s.lnk := rfl
@[simp] theorem State.returns_cq (w : Word) :
    (s.returns w).cq = s.cq := rfl
@[simp] theorem State.returns_evu (w : Word) :
    (s.returns w).evu = s.evu := rfl
@[simp] theorem State.returns_pending (w : Word) :
    (s.returns w).pending = s.pending := rfl

/-! ### evaluate -/

@[simp] theorem State.evaluate_resetPin :
    (s.evaluate).resetPin = s.resetPin := rfl
@[simp] theorem State.evaluate_host :
    (s.evaluate).host = s.host := rfl
@[simp] theorem State.evaluate_hwi :
    (s.evaluate).hwi = s.hwi := rfl
@[simp] theorem State.evaluate_map :
    (s.evaluate).map = s.map := rfl
@[simp] theorem State.evaluate_memory :
    (s.evaluate).memory = s.memory := rfl
@[simp] theorem State.evaluate_chans :
    (s.evaluate).chans = s.chans := rfl
@[simp] theorem State.evaluate_lnk :
    (s.evaluate).lnk = s.lnk := rfl
@[simp] theorem State.evaluate_cq :
    (s.evaluate).cq = s.cq := rfl
@[simp] theorem State.evaluate_pending :
    (s.evaluate).pending = s.pending := rfl

/-! ### One channel of sixteen -/

@[simp] theorem State.chan_setChan_same (c : Chan) (ch : Channel) : (s.setChan c ch).chan c = ch := by
  simp [State.chan, State.setChan]

theorem State.chan_setChan_ne (c d : Chan) (ch : Channel) (h : d ≠ c) :
    (s.setChan c ch).chan d = s.chan d := by
  have : (c : Nat) ≠ d := fun e => h (Fin.ext e.symm)
  simp [State.chan, State.setChan, this]

theorem State.chan_setChan (c d : Chan) (ch : Channel) :
    (s.setChan c ch).chan d = if d = c then ch else s.chan d := by
  by_cases h : d = c
  · subst h; simp
  · rw [State.chan_setChan_ne s c d ch h, if_neg h]

@[simp] theorem State.chan_modChan_same (c : Chan) (f : Channel → Channel) :
    (s.modChan c f).chan c = f (s.chan c) := by simp [State.modChan]

theorem State.chan_modChan_ne (c d : Chan) (f : Channel → Channel) (h : d ≠ c) :
    (s.modChan c f).chan d = s.chan d := State.chan_setChan_ne s c d _ h

theorem State.chan_modChan (c d : Chan) (f : Channel → Channel) :
    (s.modChan c f).chan d = if d = c then f (s.chan d) else s.chan d := by
  rw [State.modChan, State.chan_setChan]
  by_cases h : d = c
  · subst h; simp
  · simp [h]

@[simp] theorem State.chan_mapChans (c : Chan) (f : Channel → Channel) :
    (s.mapChans f).chan c = f (s.chan c) := by simp [State.chan, State.mapChans]

@[simp] theorem State.chan_countHw (c : Chan) (k : HwCounter) :
    (s.countHw k).chan c = s.chan c := rfl
@[simp] theorem State.chan_raise (c : Chan) (e : DevEvent) :
    (s.raise e).chan c = s.chan c := rfl
@[simp] theorem State.chan_setDeviceResult (c : Chan) (r : CmdResult) :
    (s.setDeviceResult r).chan c = s.chan c := rfl
@[simp] theorem State.chan_setChannelResult (c : Chan) (r : CmdResult) :
    (s.setChannelResult r).chan c = s.chan c := rfl
@[simp] theorem State.chan_enqueueEntry (c : Chan) (e : CtlEntry) :
    (s.enqueueEntry e).chan c = s.chan c := rfl
@[simp] theorem State.chan_deferProbe (c d : Chan) :
    (s.deferProbe d).chan c = s.chan c := rfl
@[simp] theorem State.chan_withdraw (c : Chan) (d : Chan) (h : Opcode → Bool) :
    (s.withdraw d h).chan c = s.chan c := rfl
@[simp] theorem State.chan_addCompletions (c : Chan) (es : List CqEntry) :
    (s.addCompletions es).chan c = s.chan c := rfl
@[simp] theorem State.chan_enterSlot (c : Chan) (n : Slot) :
    (s.enterSlot n).chan c = s.chan c := rfl
@[simp] theorem State.chan_drive (c : Chan) (n : Slot) (b : SlotBits) (o : LineOwner) :
    (s.drive n b o).chan c = s.chan c := rfl
@[simp] theorem State.chan_beginFrame (c : Chan) :
    (s.beginFrame).chan c = s.chan c := rfl
@[simp] theorem State.chan_noteHsync (k : Nat) (c : Chan) :
    (s.noteHsync k).chan c = s.chan c := rfl
@[simp] theorem State.chan_returns (c : Chan) (w : Word) :
    (s.returns w).chan c = s.chan c := rfl
@[simp] theorem State.chan_evaluate (c : Chan) :
    (s.evaluate).chan c = s.chan c := rfl

end Sys2Proof.Machine
end

