-- ==== Sys2Proof/Laws/Touches.lean ====
section
/-! SUPPORT. What the operations of the Link Controller and the engines on one channel leave alone: all but that
channel, the control queue and the entries of the Completion Queue. -/

namespace Sys2Proof.Machine

/-- From `s` to `t` nothing changed but channel `c`, the control queue and the entries of the Completion Queue. -/
structure TouchesOnly (c : Chan) (s t : State) : Prop where
  resetPin : t.resetPin = s.resetPin
  host : t.host = s.host
  hwi : t.hwi = s.hwi
  map : t.map = s.map
  memory : t.memory = s.memory
  evu : t.evu = s.evu
  pending : t.pending = s.pending
  lnk : t.lnk = { s.lnk with queue := t.lnk.queue }
  cq : t.cq = { s.cq with entries := t.cq.entries }
  chan : ∀ d : Chan, d ≠ c → t.chan d = s.chan d

namespace TouchesOnly

theorem refl (c : Chan) (s : State) : TouchesOnly c s s :=
  ⟨rfl, rfl, rfl, rfl, rfl, rfl, rfl, rfl, rfl, fun _ _ => rfl⟩

theorem trans {c : Chan} {s t u : State} (h : TouchesOnly c s t) (k : TouchesOnly c t u) : TouchesOnly c s u := by
  refine ⟨k.resetPin.trans h.resetPin, k.host.trans h.host, k.hwi.trans h.hwi, k.map.trans h.map,
    k.memory.trans h.memory, k.evu.trans h.evu, k.pending.trans h.pending, ?_, ?_,
    fun d hd => (k.chan d hd).trans (h.chan d hd)⟩
  · rw [k.lnk, h.lnk]
  · rw [k.cq, h.cq]

theorem modChan (c : Chan) (s : State) (f : Channel → Channel) : TouchesOnly c s (s.modChan c f) :=
  ⟨rfl, rfl, rfl, rfl, rfl, rfl, rfl, rfl, rfl, fun d hd => State.chan_modChan_ne s c d f hd⟩

theorem withdraw (c : Chan) (s : State) (p : Opcode → Bool) : TouchesOnly c s (s.withdraw c p) :=
  ⟨rfl, rfl, rfl, rfl, rfl, rfl, rfl, rfl, rfl, fun _ _ => rfl⟩

theorem queueRequest (c : Chan) (s : State) (op : Opcode) : TouchesOnly c s (s.queueRequest c op) :=
  ⟨rfl, rfl, rfl, rfl, rfl, rfl, rfl, rfl, rfl, fun _ _ => rfl⟩

theorem queueResponse (c : Chan) (s : State) (op : Opcode) (station channel : Address) (matched : Bool) :
    TouchesOnly c s (s.queueResponse c op station channel matched) := by
  unfold State.queueResponse
  split
  · exact refl c s
  · exact ⟨rfl, rfl, rfl, rfl, rfl, rfl, rfl, rfl, rfl, fun _ _ => rfl⟩

theorem replyPeer (c : Chan) (s : State) (op : Opcode) : TouchesOnly c s (s.replyPeer c op) :=
  queueResponse c s op _ _ _

theorem deferProbe (c d : Chan) (s : State) : TouchesOnly c s (s.deferProbe d) :=
  ⟨rfl, rfl, rfl, rfl, rfl, rfl, rfl, rfl, rfl, fun _ _ => rfl⟩

theorem addCompletions (c : Chan) (s : State) (es : List CqEntry) : TouchesOnly c s (s.addCompletions es) :=
  ⟨rfl, rfl, rfl, rfl, rfl, rfl, rfl, rfl, rfl, fun _ _ => rfl⟩

theorem flushTx (c : Chan) (s : State) (status : CqStatus) : TouchesOnly c s (s.flushTx c status) := by
  unfold State.flushTx
  dsimp only
  split
  · exact (addCompletions c s _).trans (modChan c _ _)
  · exact modChan c s _

theorem closeConnected (c : Chan) (s : State) (cause : Cause) : TouchesOnly c s (s.closeConnected c cause) := by
  unfold State.closeConnected
  exact ((flushTx c s _).trans (modChan c _ _)).trans (withdraw c _ _)

theorem enterOpen (c : Chan) (s : State) : TouchesOnly c s (s.enterOpen c) := (withdraw c s _).trans (modChan c _ _)

theorem enterFault (c : Chan) (s : State) (cause : Cause) : TouchesOnly c s (s.enterFault c cause) :=
  ((flushTx c s _).trans (modChan c _ _)).trans (withdraw c _ _)

theorem closeUnconnected (c : Chan) (s : State) (cause : Cause) : TouchesOnly c s (s.closeUnconnected c cause) :=
  (flushTx c s _).trans (modChan c _ _)

theorem peerRestart (c : Chan) (s : State) : TouchesOnly c s (s.peerRestart c) := by
  unfold State.peerRestart
  exact ((((flushTx c s _).trans (modChan c _ _)).trans (replyPeer c _ _)).trans (deferProbe c c _)).trans
    (modChan c _ _)

theorem startOpening (c : Chan) (s : State) : TouchesOnly c s (s.startOpening c) :=
  (queueRequest c s _).trans (modChan c _ _)

theorem completeDrain (c : Chan) (s : State) : TouchesOnly c s (s.completeDrain c) := by
  unfold State.completeDrain
  dsimp only
  split
  · exact (queueRequest c s _).trans (modChan c _ _)
  · exact (replyPeer c s _).trans (closeConnected c _ _)
  · exact closeConnected c s _
  · exact refl c s

theorem takeDrain (c : Chan) (s : State) : TouchesOnly c s (s.takeDrain c) := by
  unfold State.takeDrain
  split
  · exact completeDrain c s
  · exact refl c s

theorem takeAnswerExpiry (c : Chan) (s : State) : TouchesOnly c s (s.takeAnswerExpiry c) := by
  unfold State.takeAnswerExpiry
  dsimp only
  split
  · split
    · split
      · exact (queueRequest c s _).trans (modChan c _ _)
      · split
        · exact enterFault c s _
        · exact closeConnected c s _
    · exact modChan c s _
  · exact refl c s

theorem takeProbeExpiry (c : Chan) (s : State) : TouchesOnly c s (s.takeProbeExpiry c) := by
  unfold State.takeProbeExpiry
  split
  · exact (queueRequest c s _).trans (modChan c _ _)
  · exact refl c s

theorem closeCredit (c : Chan) (s : State) : TouchesOnly c s (s.closeCredit c) := by
  unfold State.closeCredit
  dsimp only
  split
  · exact (modChan c s _).trans (completeDrain c _)
  · exact modChan c s _

theorem closeStream (c : Chan) (s : State) : TouchesOnly c s (s.closeStream c) := by
  unfold State.closeStream
  dsimp only
  split
  · exact (modChan c s _).trans (completeDrain c _)
  · exact modChan c s _

theorem closeUnopened (c : Chan) (s : State) : TouchesOnly c s (s.closeUnopened c) :=
  (closeUnconnected c s _).trans (withdraw c _ _)

theorem resetConnected (c : Chan) (s : State) : TouchesOnly c s (s.resetConnected c) := by
  unfold State.resetConnected
  split
  · exact (queueRequest c s _).trans (closeConnected c _ _)
  · exact closeConnected c s _

theorem whenConnected (c : Chan) (s : State) (f : Channel → Channel) : TouchesOnly c s (s.whenConnected c f) := by
  unfold State.whenConnected
  split
  · exact modChan c s f
  · exact refl c s

theorem matchedOpen (c : Chan) (s : State) : TouchesOnly c s (s.matchedOpen c) := by
  unfold State.matchedOpen
  split
  · exact (replyPeer c s _).trans (enterOpen c _)
  · exact (replyPeer c s _).trans (enterOpen c _)
  · exact peerRestart c s
  · exact (replyPeer c s _).trans (closeConnected c _ _)
  · exact (replyPeer c s _).trans (closeConnected c _ _)
  · exact (replyPeer c s _).trans (closeConnected c _ _)
  · exact replyPeer c s _
  · exact replyPeer c s _

theorem matchedOpenAck (c : Chan) (s : State) : TouchesOnly c s (s.matchedOpenAck c) := by
  unfold State.matchedOpenAck
  split
  · exact enterOpen c s
  · exact replyPeer c s _
  all_goals exact refl c s

theorem matchedClose (c : Chan) (s : State) : TouchesOnly c s (s.matchedClose c) := by
  unfold State.matchedClose
  split
  · split
    · exact (replyPeer c s _).trans (closeConnected c _ _)
    · exact modChan c s _
  · exact modChan c s _
  · exact replyPeer c s _
  · exact replyPeer c s _
  · exact replyPeer c s _
  · exact replyPeer c s _
  · exact replyPeer c s _
  · exact refl c s

theorem matchedCloseAck (c : Chan) (s : State) : TouchesOnly c s (s.matchedCloseAck c) := by
  unfold State.matchedCloseAck
  split
  · exact closeConnected c s _
  · exact refl c s

theorem matchedReset (c : Chan) (s : State) : TouchesOnly c s (s.matchedReset c) := by
  unfold State.matchedReset
  split
  · exact enterFault c s _
  · exact closeConnected c s _
  · exact closeConnected c s _
  · exact closeConnected c s _
  · exact closeConnected c s _
  all_goals exact refl c s

theorem matchedWord (c : Chan) (s : State) (op : Opcode) (v : BitVec 5) : TouchesOnly c s (s.matchedWord c op v) := by
  cases op
  · exact matchedOpen c s
  · exact matchedOpenAck c s
  · exact matchedClose c s
  · exact matchedCloseAck c s
  · exact matchedReset c s
  · exact whenConnected c s _
  · exact whenConnected c s _
  · exact whenConnected c s _

theorem reportCredit (c : Chan) (s : State) (clash : Bool) : TouchesOnly c s (s.reportCredit c clash) := by
  unfold State.reportCredit
  dsimp only
  split
  · split
    · exact (addCompletions c s _).trans (modChan c _ (fun _ => _))
    · exact modChan c s (fun _ => _)
  · exact modChan c s (fun _ => _)

end TouchesOnly

/-! ### The steps that fall due -/

/-- The frame-start test changes the map and the device latches only (02 R29). -/
theorem State.mapTest_frame (s : State) :
    s.mapTest = { s with map := s.mapTest.map, evu := { s.evu with latches := s.mapTest.evu.latches } } := by
  unfold State.mapTest
  split
  · rfl
  · split
    · rfl
    · dsimp only
      split
      · rfl
      · split <;> rfl

/-- The refresh expiry changes the refresh count and the marks only (04 R65). -/
theorem State.takeRefresh_frame (s : State) :
    s.takeRefresh =
      { s with lnk := { s.lnk with refreshCount := s.takeRefresh.lnk.refreshCount }, chans := s.takeRefresh.chans } := by
  unfold State.takeRefresh
  split <;> rfl

theorem State.takeAnswerExpiry_of_not_due (s : State) (c : Chan) (h : (s.chan c).answerDue = false) :
    s.takeAnswerExpiry c = s := by simp [State.takeAnswerExpiry, h]

theorem State.takeProbeExpiry_of_not_due (s : State) (c : Chan)
    (h : (s.chan c).probeDue s.lnk.probeDelay = false) : s.takeProbeExpiry c = s := by
  simp [State.takeProbeExpiry, h]

theorem State.takeDrain_of_not_due (s : State) (c : Chan) (h : s.drainDue c = false) : s.takeDrain c = s := by
  simp [State.takeDrain, h]

theorem State.takeRefresh_of_not_due (s : State) (h : s.lnk.refreshDue = false) : s.takeRefresh = s := by
  simp [State.takeRefresh, h]

theorem State.mapTest_of_not_due (s : State) (h : s.map.dueFrame = none) : s.mapTest = s := by
  simp [State.mapTest, h]

/-- What a sequence of steps leaves alone, when each step leaves it alone. -/
theorem foldl_keeps {α β γ : Type} (f : β → α → β) (g : β → γ) (h : ∀ b a, g (f b a) = g b) (l : List α) (b : β) :
    g (l.foldl f b) = g b := by
  induction l generalizing b with
  | nil => rfl
  | cons a l ih => rw [List.foldl_cons, ih, h]

/-- The steps that fall due leave the highway, the host port, the memory, the pin and the queue alone. -/
theorem State.takeDue_frame (s : State) :
    s.takeDue.hwi = s.hwi ∧ s.takeDue.host = s.host ∧ s.takeDue.memory = s.memory ∧
      s.takeDue.resetPin = s.resetPin ∧ s.takeDue.pending = s.pending := by
  refine ⟨?_, ?_, ?_, ?_, ?_⟩
  · unfold State.takeDue
    rw [foldl_keeps State.takeDrain (·.hwi) (fun b a => (TouchesOnly.takeDrain a b).hwi), State.takeRefresh_frame,
      foldl_keeps State.takeProbeExpiry (·.hwi) (fun b a => (TouchesOnly.takeProbeExpiry a b).hwi),
      foldl_keeps State.takeAnswerExpiry (·.hwi) (fun b a => (TouchesOnly.takeAnswerExpiry a b).hwi),
      State.mapTest_frame]
  · unfold State.takeDue
    rw [foldl_keeps State.takeDrain (·.host) (fun b a => (TouchesOnly.takeDrain a b).host), State.takeRefresh_frame,
      foldl_keeps State.takeProbeExpiry (·.host) (fun b a => (TouchesOnly.takeProbeExpiry a b).host),
      foldl_keeps State.takeAnswerExpiry (·.host) (fun b a => (TouchesOnly.takeAnswerExpiry a b).host),
      State.mapTest_frame]
  · unfold State.takeDue
    rw [foldl_keeps State.takeDrain (·.memory) (fun b a => (TouchesOnly.takeDrain a b).memory), State.takeRefresh_frame,
      foldl_keeps State.takeProbeExpiry (·.memory) (fun b a => (TouchesOnly.takeProbeExpiry a b).memory),
      foldl_keeps State.takeAnswerExpiry (·.memory) (fun b a => (TouchesOnly.takeAnswerExpiry a b).memory),
      State.mapTest_frame]
  · unfold State.takeDue
    rw [foldl_keeps State.takeDrain (·.resetPin) (fun b a => (TouchesOnly.takeDrain a b).resetPin),
      State.takeRefresh_frame,
      foldl_keeps State.takeProbeExpiry (·.resetPin) (fun b a => (TouchesOnly.takeProbeExpiry a b).resetPin),
      foldl_keeps State.takeAnswerExpiry (·.resetPin) (fun b a => (TouchesOnly.takeAnswerExpiry a b).resetPin),
      State.mapTest_frame]
  · unfold State.takeDue
    rw [foldl_keeps State.takeDrain (·.pending) (fun b a => (TouchesOnly.takeDrain a b).pending),
      State.takeRefresh_frame,
      foldl_keeps State.takeProbeExpiry (·.pending) (fun b a => (TouchesOnly.takeProbeExpiry a b).pending),
      foldl_keeps State.takeAnswerExpiry (·.pending) (fun b a => (TouchesOnly.takeAnswerExpiry a b).pending),
      State.mapTest_frame]

/-- After the map test no test is due (02 R29). -/
@[simp] theorem State.mapTest_dueFrame (s : State) : s.mapTest.map.dueFrame = none := by
  unfold State.mapTest
  split
  · assumption
  · split
    · rfl
    · dsimp only
      split_ifs <;> rfl

/-- The steps that fall due change the Slot Map by the map test alone, and leave no test due. -/
theorem State.takeDue_map (s : State) : s.takeDue.map = s.mapTest.map ∧ s.takeDue.map.dueFrame = none := by
  have h : s.takeDue.map = s.mapTest.map := by
    unfold State.takeDue
    rw [foldl_keeps State.takeDrain (·.map) (fun b a => (TouchesOnly.takeDrain a b).map), State.takeRefresh_frame,
      foldl_keeps State.takeProbeExpiry (·.map) (fun b a => (TouchesOnly.takeProbeExpiry a b).map),
      foldl_keeps State.takeAnswerExpiry (·.map) (fun b a => (TouchesOnly.takeAnswerExpiry a b).map)]
  exact ⟨h, by rw [h, State.mapTest_dueFrame]⟩

/-! ### Outcomes -/

/-- A command of a live part is what it does; under RESET# it does nothing (11 R176). -/
theorem whenLive_live {s : State} (k : Out) (h : s.resetPin = false) : whenLive s k = k := by simp [whenLive, h]

theorem whenLive_held {s : State} (k : Out) (h : s.resetPin = true) : whenLive s k = .next s := by
  simp [whenLive, h]

/-- A table access acts, advances the index and ends, or is no access at all (11 R171). -/
theorem tableAccess_next {s t act : State} {tables : List Nat} (h : tableAccess s tables act = .next t) :
    t = s ∨ (s.resetPin = false ∧ s.host.table ∈ tables ∧ t = act.advanceIndex.evaluate) := by
  unfold tableAccess whenLive at h
  split at h
  · simp only [Host.Outcome.next.injEq] at h
    exact .inl h.symm
  · split at h
    · simp only [finish, Host.Outcome.next.injEq] at h
      rename_i h1 h2
      exact .inr ⟨by simpa using h1, h2, h.symm⟩
    · simp only [Host.Outcome.next.injEq] at h
      exact .inl h.symm

/-! ### The control queue (04 R60 to R62) -/

/-- What stands in the queue after an entry is queued stood there before, or is the new entry, or is an old one that
took the new one's opcode and destination. -/
theorem mem_enqueue {q : List CtlEntry} {e x : CtlEntry} (h : x ∈ enqueue q e) :
    x ∈ q ∨ x = e ∨ ∃ old ∈ q, old.isFor e.chan e.cls = true ∧ x = old.takeOver e := by
  unfold enqueue at h
  split at h
  · obtain ⟨y, hy, rfl⟩ := List.mem_map.mp h
    split
    · rename_i hf
      exact .inr (.inr ⟨y, hy, hf, rfl⟩)
    · exact .inl hy
  · rcases List.mem_append.mp h with h | h
    · exact .inl h
    · exact .inr (.inl (List.mem_singleton.mp h))

/-- An entry that takes over keeps the channel and class asked for. -/
theorem CtlEntry.takeOver_key {old new : CtlEntry} (h : old.isFor new.chan new.cls = true) :
    (old.takeOver new).chan = new.chan ∧ (old.takeOver new).cls = new.cls ∧
      (old.takeOver new).opcode = new.opcode ∧ (old.takeOver new).destStation = new.destStation ∧
      (old.takeOver new).destChannel = new.destChannel := by
  simp only [CtlEntry.isFor, Bool.and_eq_true, decide_eq_true_eq] at h
  unfold CtlEntry.takeOver CtlEntry.unchosen
  split
  · rename_i hh
    exact ⟨h.1, h.2, hh.1, hh.2.1, hh.2.2⟩
  · exact ⟨rfl, rfl, rfl, rfl, rfl⟩

/-- A Probe is placed among the entries, and they keep their order. -/
theorem placeBehindReply_split (c : Chan) (p : CtlEntry) (q : List CtlEntry) :
    ∃ before after, q = before ++ after ∧ placeBehindReply c p q = before ++ p :: after := by
  induction q with
  | nil => exact ⟨[], [], rfl, rfl⟩
  | cons e rest ih =>
    unfold placeBehindReply
    split
    · exact ⟨[e], rest, rfl, rfl⟩
    · obtain ⟨before, after, h, k⟩ := ih
      exact ⟨e :: before, after, by rw [h]; rfl, by rw [k]; rfl⟩

/-- Deferring a Probe changes the order of the queue alone (05 R82, 04 R62: nothing is withdrawn). -/
theorem deferProbe_perm (c : Chan) (q : List CtlEntry) : (deferProbe c q).Perm q := by
  induction q with
  | nil => exact .nil
  | cons e rest ih =>
    unfold deferProbe
    split
    · obtain ⟨before, after, h, k⟩ := placeBehindReply_split c e rest
      rw [k, h]
      exact List.perm_middle
    · exact ih.cons e

/-- Deferring a Probe leaves the responses as they stand. -/
theorem deferProbe_responses (c : Chan) (q : List CtlEntry) :
    (deferProbe c q).filter (fun e => decide (e.cls = .response)) =
      q.filter (fun e => decide (e.cls = .response)) := by
  induction q with
  | nil => rfl
  | cons e rest ih =>
    unfold deferProbe
    split
    · rename_i h
      have hc : e.cls = .request := by
        simp only [CtlEntry.isProbeOf, CtlEntry.isFor, Bool.and_eq_true, decide_eq_true_eq] at h
        exact h.1.1.2
      obtain ⟨before, after, h, k⟩ := placeBehindReply_split c e rest
      rw [k, h]
      simp [hc]
    · simp only [List.filter_cons, ih]

/-- A withdrawn request is gone (04 R62). -/
theorem mem_withdraw {s : State} {c : Chan} {p : Opcode → Bool} {e : CtlEntry} :
    e ∈ (s.withdraw c p).lnk.queue ↔ e ∈ s.lnk.queue ∧ ¬ (e.isFor c .request = true ∧ p e.opcode = true) := by
  simp only [State.withdraw, List.mem_filter, Bool.not_eq_true', Bool.and_eq_false_iff, not_and_or,
    Bool.not_eq_true]

end Sys2Proof.Machine
end

