-- ==== Sys2Proof/Tests/Slice0.lean ====
section
/-! SUPPORT. The model's own tests: the well-formedness checks, one step of each command on a small state with the
values of the spec's worked sequences, and a witness for the hypotheses of each statement. -/

open Sys2Proof Sys2Proof.Machine

namespace Sys2Proof.Tests

-- One theorem after another: many kernel evaluations at once ask for more threads than there are.
set_option Elab.async false

/-! ### Small states -/

/-- The next state of a command, if it answers one. -/
def after (o : Out) : Option State :=
  match o with
  | .next t => some t
  | .fault _ => none
  | .refused _ => none

/-- A channel with peer 9/7, TX words 0 to 15 and RX words 16 to 31. -/
def chanIn (st : LinkState) (m : Mode) : Channel :=
  { Channel.reset with
    config := { ChanConfig.reset with mode := m, peerStation := 9, peerChannel := 7 }
    txRegion := ⟨0, 1⟩
    rxRegion := ⟨1, 1⟩
    link := { LinkRecord.reset with state := st } }

/-- A record of 3 words, complete or open. -/
def record (complete : Bool) : RxRecord :=
  { length := 3, complete := complete, flags := RxFlags.clear, firstFrame := 103, lastFrame := none, readPos := 0 }

/-- A message of 12 words with tag 7. -/
def message (sent : Nat) : TxMessage := { tag := 7, length := 12, sent := sent, clashed := false, restarted := false }

/-- The part after reset with channel 0, which CHSEL names, as given. -/
def withChan (ch : Channel) : State := State.reset.setChan 0 ch

/-- The part in LOCKED at station 5, N = 8, between slots after slot 0, with entry 1 of the active bank as given. -/
def locked (role : Role) (frame : Word) (use : MapUse) (s : State) : State :=
  { s with
    hwi := { s.hwi with role := role, station := 5, sync := .locked, frame := frame, position := .served 0 }
    map := { s.map with bankA := s.map.bankA.set 1 use } }

/-- The same in another sync state. -/
def inSync (sync : Sync) (s : State) : State := { s with hwi := { s.hwi with sync := sync } }

/-- The same with slot 0 in progress. -/
def inHeader (s : State) : State := { s with hwi := { s.hwi with position := .header } }

/-- The same with a word on the line. -/
def onLine (owner : LineOwner) (bits : SlotBits) (s : State) : State :=
  { s with hwi := { s.hwi with line := some ⟨bits, owner⟩ } }

/-- The same with HSYNC asserted at the bit clock before `k`. -/
def held (k : Nat) (s : State) : State := s.noteHsync (k - 1)

/-- The same with TSEL at a table and index. -/
def tsel (t i : Nat) (s : State) : State := { s with host := { s.host with table := t, index := i } }

/-! ### Well-formedness refuses -/

theorem test_wf_refuses_listed_device_code : (Instr.unknownCommandCode .device 6).wf = false := by decide +kernel
theorem test_wf_refuses_listed_channel_code : (Instr.unknownCommandCode .channel 8).wf = false := by decide +kernel
theorem test_wf_takes_unlisted_codes :
    (Instr.unknownCommandCode .device 7).wf = true ∧ (Instr.unknownCommandCode .channel 9).wf = true := by decide +kernel
theorem test_wf_refuses_pulse_at_bit_0 : (Instr.misplacedPulse 0).wf = false := by decide +kernel
theorem test_wf_refuses_pulse_past_the_frame : (Instr.misplacedPulse 1280).wf = false := by decide +kernel
theorem test_wf_refuses_slot_0 :
    (Instr.txdataOffer 0).wf = false ∧ (Instr.txcontrolOffer 0).wf = false ∧ (Instr.rxdataWord 0 0).wf = false ∧
      (Instr.rxcontrolWord 0 0).wf = false ∧ (Instr.unusedSlotWord 0 0).wf = false := by decide +kernel

/-! ### The host access and its command -/

/-- 11 R173, Table 34: the lowest and the highest code of each register, and the next code, which is unlisted. -/
theorem test_command_codes :
    commandOfWrite 0 0 0x0001 = .start ∧ commandOfWrite 0 0 0xFFF6 = .softreset ∧
      commandOfWrite 0 0 0x0007 = .unknownCommandCode .device 7 ∧ commandOfWrite 15 0 0x0001 = .chanOpen ∧
      commandOfWrite 15 0 0x0008 = .chanRelease ∧ commandOfWrite 15 0 0x0009 = .unknownCommandCode .channel 9 := by
  decide +kernel

/-- 11 Table 32: offsets 0x06 HDIV, 0x18 CQ1, 0x34 TDATA and the unused 0x3E. -/
theorem test_command_addresses :
    commandOfWrite 3 0 5 = .hdivWrite 5 ∧ commandOfWrite 12 0 5 = .registerWrite .cq1 5 ∧
      commandOfWrite 26 3 5 = .configWordWrite 5 ∧ commandOfWrite 31 0 5 = .registerWrite (.unused 4) 5 ∧
      commandOfRead 26 5 = some .highwayCounterRead ∧ commandOfRead 12 0 = none := by decide +kernel

/-! ### Word formats -/

/-- 01 section 1.11: the words of stations 3 and 9, check bits 1 and 0. -/
theorem test_slot_words_of_section_1_11 :
    slotWord .middle 0x1234 = 0b01100010010001101001 ∧ slotWord .middle 0x1230 = 0b01100010010001100000 ∧
      slotWord .middle 0x1234 &&& slotWord .middle 0x1230 = slotWord .middle 0x1230 := by decide +kernel

/-- 04 section 4.7: OpenAck from channel 7 to channel 2 of station 5 has payload 0x5227 and check bit 1. -/
theorem test_control_word_of_section_4_7 :
    controlPayload 5 2 .openAck 7 = 0x5227 ∧ slotWord .control 0x5227 = 0b00001010010001001111 := by decide +kernel

/-- 12 section 12.9: Header 3998 is 0x0F9E; with bits 3 and 5 inverted it is a valid Header 4022. -/
theorem test_header_of_section_12_9 :
    slotWord .header 3998 = 0b00100001111100111100 ∧ receive 0b00100001111101101100 = .word .header 4022 := by decide +kernel

/-! ### Device commands -/

/-- 01 section 1.10: START of a Follower. -/
theorem test_start_follower :
    (after (exec .start State.reset)).map (fun t => (t.hwi.sync, t.host.deviceResult)) = some (.acquire, .done) := by
  decide +kernel

/-- 01 R10: START of a Master gives frame 0 and LockGained. -/
theorem test_start_master :
    (after (exec .start { State.reset with hwi := { Highway.reset with role := .master, frame := 9 } })).map
      (fun t => (t.hwi.sync, t.hwi.frame, t.hwi.position, t.evu.latches)) = some (.locked, 0, .header, 1) := by decide +kernel

/-- 01 R11. -/
theorem test_stop_in_off :
    (after (exec .stop State.reset)).map (fun t => (t.hwi.sync, t.host.deviceResult)) = some (.off, .nothing) := by
  decide +kernel

/-- 01 R16, 02 R29: the test of frame 4000, still due, passes target 5 late; nothing is left due for a later START. -/
theorem test_stop_takes_the_due_test :
    (after (exec .stop (locked .follower 4000 .unused { State.reset with
      map := { SlotMap.reset with target := some 5, dueFrame := some 4000 } }))).map
      (fun t => (t.hwi.sync, t.map.active, t.map.target, t.map.dueFrame, t.evu.latches)) =
      some (.off, .b, none, none, 0x30) := by decide +kernel

/-- 02 section 2.10: two TxControl entries in the pending bank. -/
theorem test_switch_bad_plan :
    (after (exec .switch (locked .follower 3950 .unused
      { State.reset with map := { SlotMap.reset with
        bankB := (SlotMap.reset.bankB.set 1 .txControl).set 6 .txControl } }))).map
      (fun t => (t.map.target, t.host.deviceResult)) = some (none, .badConfig) := by decide +kernel

/-- 02 section 2.10: DARG 4000 and a valid plan. -/
theorem test_switch_arms :
    (after (exec .switch (locked .follower 3951 .unused
      { State.reset with host := { HostPort.reset with darg := 4000 } }))).map
      (fun t => (t.map.target, t.map.active, t.host.deviceResult)) = some (some 4000, .a, .done) := by decide +kernel

/-- 11 section 11.8. -/
theorem test_cancel_nothing :
    (after (exec .cancel State.reset)).map (·.host.deviceResult) = some .nothing := by decide +kernel

/-- 10 section 10.7: the last POPCQ takes the line high. -/
theorem test_popcq :
    (after (exec .popcq (State.evaluate { State.reset with
      cq := { Completions.reset with entries := [⟨7, 1, .sent, false, 105⟩], reservations := 1 }
      evu := { EventUnit.reset with enables := 0x80 } }))).map
      (fun t => (t.cq.entries, t.cq.reservations, t.evu.intAsserted)) = some ([], 0, false) := by decide +kernel

/-- 11 R175: the configuration stays and the sync state is OFF. -/
theorem test_softreset :
    (after (exec .softreset (locked .master 77 .txControl (withChan (chanIn .opened .credit))))).map
      (fun t => (t.hwi.role, t.hwi.sync, t.map.bankA[1], (t.chan 0).link.state, (t.chan 0).config.peerStation)) =
      some (.master, .off, .txControl, .closed, 9) := by decide +kernel

/-- 11 R173. -/
theorem test_unknown_code :
    (after (exec (.unknownCommandCode .device 7) State.reset)).map (·.host.deviceResult) = some .badConfig := by decide +kernel

/-- 11 R176: nothing but the pin acts while it is asserted. -/
theorem test_reset_pin :
    (after (exec (.resetPin true) (withChan (chanIn .opened .credit)))).map
      (fun t => (t.resetPin, (t.chan 0).link.state)) = some (true, .closed) := by decide +kernel

/-! ### Channel commands -/

/-- 05 section 5.7: OPEN loads 64 and 3 and queues Open to 9/7. -/
theorem test_open :
    (after (exec .chanOpen (withChan (chanIn .closed .credit)))).map
      (fun t => ((t.chan 0).link, t.lnk.queue)) =
      some (⟨.opening, .none, some 64, 3⟩, [⟨0, .request, .open_, 9, 7, false⟩]) := by decide +kernel

/-- 03 section 3.8: LISTEN without a TX region. -/
theorem test_listen_without_tx_region :
    (after (exec .chanListen (withChan { chanIn .closed .credit with txRegion := ⟨0, 0⟩ }))).map
      (fun t => ((t.chan 0).link.state, t.host.channelResult)) = some (.closed, .badConfig) := by decide +kernel

/-- 05 section 5.8: CLOSE with an empty list reaches CLOSEWAIT with remaining 64 and retries 3. -/
theorem test_close :
    (after (exec .chanClose (withChan (chanIn .opened .credit)))).map
      (fun t => ((t.chan 0).link, t.lnk.queue)) =
      some (⟨.closeWait, .none, some 64, 3⟩, [⟨0, .request, .close, 9, 7, false⟩]) := by decide +kernel

/-- 05 R78. -/
theorem test_reset_channel :
    (after (exec .chanReset (withChan (chanIn .opened .credit)))).map
      (fun t => ((t.chan 0).link.state, (t.chan 0).link.cause, t.lnk.queue)) =
      some (.closed, .hostReset, [⟨0, .request, .reset, 9, 7, false⟩]) := by decide +kernel

/-- 03 section 3.8: FLUSH in CLOSED. -/
theorem test_flush :
    (after (exec .chanFlush (withChan { chanIn .closed .credit with rx := ⟨5, [record true, record true], false⟩ }))).map
      (fun t => ((t.chan 0).rx, t.host.channelResult)) = some (⟨0, [], false⟩, .done) := by decide +kernel

/-- 07 section 7.5: CTAG 7, POST of 12 words. -/
theorem test_post :
    (after (exec .chanPost (withChan { chanIn .opened .credit with
      tx := { TxSide.reset with composing := 12, tag := 7 } }))).map
      (fun t => ((t.chan 0).tx.messages, (t.chan 0).tx.composing, t.cq.reservations)) =
      some ([message 0], 0, 1) := by decide +kernel

/-- 07 section 7.5: POST of a spoiled message. -/
theorem test_post_spoiled :
    (after (exec .chanPost (withChan { chanIn .opened .credit with
      tx := { TxSide.reset with composing := 20, spoiled := true } }))).map
      (fun t => ((t.chan 0).tx.composing, t.host.channelResult)) = some (20, .spoiled) := by decide +kernel

/-- 07 section 7.5: ABANDON frees the composing words. -/
theorem test_abandon :
    (after (exec .chanAbandon (withChan { chanIn .opened .credit with
      tx := { TxSide.reset with messages := [message 0], composing := 20, spoiled := true } }))).map
      (fun t => ((t.chan 0).tx.held, (t.chan 0).tx.spoiled, t.host.channelResult)) = some (12, false, .done) := by
  decide +kernel

/-- 06 section 6.7: RELEASE of 20 words grants 19 and 1. -/
theorem test_release :
    (after (exec .chanRelease (withChan { chanIn .opened .credit with
      rxRegion := ⟨1, 2⟩
      rx := ⟨0, [{ record true with length := 20 }], false⟩
      credits := { Credits.zero with wordGranted := 0, wordCounted := 20, msgGranted := 16, msgCounted := 1 } }))).map
      (fun t => ((t.chan 0).credits.wordGranted, (t.chan 0).credits.msgGranted, (t.chan 0).wordMark.set,
        (t.chan 0).msgMark.set, (t.chan 0).rx.held)) = some (19, 17, true, true, 0) := by decide +kernel

/-- 07 section 7.5: the 21st word is refused and spoils. -/
theorem test_cdata_write_refused :
    (after (exec (.cdataWrite 5) (withChan { chanIn .opened .credit with
      config := { (chanIn .opened .credit).config with maxLength := 20 }
      txRegion := ⟨0, 2⟩
      tx := { TxSide.reset with messages := [message 0], composing := 20 } }))).map
      (fun t => ((t.chan 0).tx.composing, (t.chan 0).tx.spoiled, (t.chan 0).latches, t.memory)) =
      some (20, true, 2, []) := by decide +kernel

/-- 03 R42: the store position is the word after the words held. -/
theorem test_cdata_write_stores :
    (after (exec (.cdataWrite 5) (withChan { chanIn .opened .credit with
      tx := { TxSide.reset with free := 10, composing := 7 } }))).map
      (fun t => ((t.chan 0).tx.composing, t.memory)) = some (8, [(1, 5)]) := by decide +kernel

/-- 08 R139: nothing to read. -/
theorem test_cdata_read_empty :
    (after (exec .cdataRead State.reset)).map (fun t => (t.host.readData, (t.chan 0).latches)) = some (some 0, 4) := by
  decide +kernel

/-! ### Register writes and table accesses -/

/-- 01 R2. -/
theorem test_hcfg_refused_when_locked :
    (after (exec (.hcfgWrite 0x115) (locked .follower 1 .unused State.reset))).map
      (fun t => (t.hwi.role, t.hwi.station, t.host.deviceResult)) = some (.follower, 5, .wrongState) := by decide +kernel

/-- 01 R2, 11 Table 34. -/
theorem test_hcfg_taken_in_off :
    (after (exec (.hcfgWrite 0x113) State.reset)).map (fun t => (t.hwi.role, t.hwi.lengthCode, t.hwi.station)) =
      some (.master, 1, 3) := by decide +kernel

theorem test_hdiv :
    (after (exec (.hdivWrite 0x1FE) State.reset)).map (·.hwi.divider) = some 0xFE := by decide +kernel

/-- 10 section 10.7: the write at LineError takes the line high. -/
theorem test_devpend :
    (after (exec (.devpendWrite 0x40) (State.evaluate { State.reset with
      evu := { EventUnit.reset with latches := 0x40, enables := 0x40 } }))).map
      (fun t => (t.evu.latches, t.evu.intAsserted)) = some (0, false) := by decide +kernel

/-- 10 section 10.7: the write of DEVEN takes the line low for a latched event. -/
theorem test_deven :
    (after (exec (.devenWrite 0x40) { State.reset with evu := { EventUnit.reset with latches := 0x40 } })).map
      (·.evu.intAsserted) = some true := by decide +kernel

theorem test_cevent :
    (after (exec (.ceventWrite 0x3F) (withChan { chanIn .opened .credit with latches := 0xD }))).map
      (fun t => (t.chan 0).latches) = some 0 := by decide +kernel

/-- 05 R94. -/
theorem test_timing_zero_refused :
    (after (exec (.timingWrite 0x300) State.reset)).map (fun t => (t.lnk.answerTimeout, t.host.deviceResult)) =
      some (16, .badConfig) := by decide +kernel

/-- 06 R108, 04 R65. -/
theorem test_timing2 :
    (after (exec (.timing2Write 0x0120) { State.reset with lnk := { LinkControl.reset with refreshCount := 9 } })).map
      (fun t => (t.lnk.refreshInterval, t.lnk.probeDelay, t.lnk.refreshCount)) = some (1, 32, 0) := by decide +kernel

/-- 09 R154. -/
theorem test_cqthr_refused :
    (after (exec (.cqthrWrite 33) State.reset)).map (fun t => (t.cq.threshold, t.host.deviceResult)) =
      some (1, .badConfig) := by decide +kernel

/-- 11 section 11.8: table 5 has 9 words. -/
theorem test_tsel_refused :
    (after (exec (.tselWrite 0x509) (tsel 3 12 State.reset))).map
      (fun t => (t.host.table, t.host.index, t.host.deviceResult)) = some (3, 12, .badConfig) := by decide +kernel

/-- 11 section 11.8: no use has code 5. -/
theorem test_pending_bank_refused :
    (after (exec (.pendingBankWrite 0x500) (tsel 0 6 State.reset))).map
      (fun t => (t.host.index, t.map.bankB[6], t.host.deviceResult)) = some (7, .unused, .badConfig) := by decide +kernel

/-- 11 section 11.8: entry 6 is RxData 3. -/
theorem test_pending_bank_taken :
    (after (exec (.pendingBankWrite 0x203) (tsel 0 6 State.reset))).map
      (fun t => (t.host.index, t.map.bankB[6], t.map.bankA[6])) = some (7, .rxData 3, .unused) := by decide +kernel

/-- 03 section 3.8: the end of a region is not tested at the write. -/
theorem test_region_write :
    (after (exec (.regionTableWrite 0xFA08) (tsel 2 9 State.reset))).map
      (fun t => ((t.chan 4).rxRegion, (t.chan 4).txRegion, t.host.index)) = some (⟨250, 8⟩, ⟨0, 0⟩, 10) := by decide +kernel

/-- 03 R42, R45: a region given anew starts at its first word. -/
theorem test_region_write_starts_at_first_word :
    (after (exec (.regionTableWrite 0x0401) (tsel 2 0 (withChan { chanIn .closed .credit with
      tx := { TxSide.reset with free := 12 }, rx := ⟨5, [], false⟩ })))).map
      (fun t => ((t.chan 0).txRegion, (t.chan 0).tx.free, (t.chan 0).rx.free)) = some (⟨4, 1⟩, 0, 5) := by decide +kernel

/-- 03 section 3.9: RX threshold 0. -/
theorem test_config_word_refused :
    (after (exec (.configWordWrite 0) (tsel 3 3 State.reset))).map
      (fun t => ((t.chan 0).config.rxThreshold, t.host.deviceResult, t.host.index)) = some (1, .badConfig, 4) := by
  decide +kernel

/-- 03 section 3.8: word 0 of channel 4. -/
theorem test_config_word_taken :
    (after (exec (.configWordWrite 0x100) (tsel 3 24 State.reset))).map (fun t => (t.chan 4).config.mode) =
      some .stream := by decide +kernel

/-- 03 R50. -/
theorem test_channel_counter_read :
    (after (exec .channelCounterRead (tsel 4 5 (withChan { Channel.reset with
      counters := (Vector.replicate 6 0).set 5 200 })))).map
      (fun t => (t.host.readData, (t.chan 0).counters[5], t.host.index)) = some (some 200, 0, 6) := by decide +kernel

/-- 11 section 11.8: CheckErrors 4 is read and cleared. -/
theorem test_highway_counter_read :
    (after (exec .highwayCounterRead (tsel 5 0 { State.reset with
      hwi := { Highway.reset with counters := (Vector.replicate 9 0).set 0 4 } }))).map
      (fun t => (t.host.readData, t.hwi.counters[0], t.host.index)) = some (some 4, 0, 1) := by decide +kernel

/-- 03 R41: the value of configuration word 1 after RESET#. -/
theorem test_table_read :
    (after (exec .tableRead (tsel 3 95 State.reset))).map (fun t => (t.host.readData, t.host.index)) =
      some (some 0, 0) ∧
    (after (exec .tableRead (tsel 3 1 State.reset))).map (·.host.readData) = some (some 0x100) := by decide +kernel

/-- 11 section 11.8: a write to table 5 advances the index and stores nothing. -/
theorem test_table_write_ignored :
    (after (exec (.tableWriteIgnored 9) (tsel 5 0 State.reset))).map
      (fun t => (t.host.index, t.hwi.counters[0], t.host.deviceResult)) = some (1, 0, .done) := by decide +kernel

theorem test_register_write :
    (after (exec (.registerWrite .chsel 0x15) State.reset)).map (fun t => (t.host.selected, t.host.creditView)) =
      some (5, true) := by decide +kernel

/-! ### Synchronisation -/

/-- 01 section 1.10: a pulse at t + 160 opens a candidate frame. -/
theorem test_acquire_pulse :
    (after (exec (.acquirePulse 1160) { State.reset with
      hwi := { Highway.reset with sync := .acquire, lastPulse := some 1000 } })).map
      (fun t => (t.hwi.candidate, t.hwi.lastPulse)) = some (true, some 1160) := by decide +kernel

/-- R1: an HSYNC held asserted gives one pulse and then no more, and asserted again after one bit clock gives another. -/
theorem test_held_hsync :
    let s := { State.reset with hwi := { Highway.reset with sync := .acquire, lastPulse := some 1000,
                                                            hsyncBit := some 1000 } }
    (after (exec (.acquirePulse 1001) s)).map (fun t => (t.hwi.lastPulse, t.hwi.hsyncBit)) =
        some (some 1000, some 1001) ∧
      (after (exec (.acquirePulse 1002) s)).map (fun t => (t.hwi.lastPulse, t.hwi.hsyncBit)) =
        some (some 1002, some 1002) := by decide +kernel

/-- 01 section 1.10: Header 1000 locks. -/
theorem test_candidate_header :
    (after (exec (.candidateHeader (slotWord .header 1000)) { State.reset with
      hwi := { Highway.reset with sync := .acquire, lastPulse := some 1160, candidate := true } })).map
      (fun t => (t.hwi.sync, t.hwi.frame, t.hwi.frameBit, t.evu.latches)) = some (.locked, 1000, 1160, 1) := by decide +kernel

/-- 02 section 2.11: a check error in slot 0 of the candidate frame. -/
theorem test_candidate_header_damaged :
    (after (exec (.candidateHeader (slotWord .header 4001 ^^^ 1)) { State.reset with
      hwi := { Highway.reset with sync := .acquire, lastPulse := some 1160, candidate := true } })).map
      (fun t => (t.hwi.sync, t.hwi.candidate, t.hwi.lastPulse)) = some (.acquire, false, some 1160) := by decide +kernel

/-- 01 section 1.10: no pulse for frame 1002. -/
theorem test_sync_miss :
    (after (exec .syncMiss (locked .follower 1001 .unused State.reset))).map
      (fun t => (t.hwi.sync, t.hwi.frame, t.hwi.counters[3], t.evu.latches)) = some (.holdover, 1002, 1, 0) := by decide +kernel

theorem test_holdover_miss :
    (after (exec .holdoverMiss (inSync .holdover (locked .follower 1001 .unused State.reset)))).map
      (fun t => (t.hwi.sync, t.hwi.lastPulse, t.hwi.counters[3], t.evu.latches)) = some (.acquire, none, 1, 2) := by
  decide +kernel

/-- 01 section 1.10: the pulse at bit 47 of frame 1011. -/
theorem test_misplaced_pulse :
    (after (exec (.misplacedPulse 47) (locked .follower 1011 .unused State.reset))).map
      (fun t => (t.hwi.sync, t.hwi.frame, t.hwi.lastPulse, t.evu.latches)) = some (.acquire, 1011, some 47, 2) := by
  decide +kernel

/-- R1: HSYNC held into bit 1 of the frame is no misplaced pulse. -/
theorem test_held_hsync_keeps_lock :
    (after (step { locked .follower 1011 .unused State.reset with pending := [.pulseAtExpectedBit] })).bind
      (fun t => (after (exec (.misplacedPulse 1) t)).map
        (fun u => (u.hwi.sync, u.hwi.frameBit, u.hwi.hsyncBit, u.evu.latches))) =
      some (.locked, 160, some 161, 0) := by decide +kernel

/-- 01 section 1.10: back to LOCKED in frame 1003, with no event. -/
theorem test_pulse_at_expected_bit :
    (after (exec .pulseAtExpectedBit (inSync .holdover (locked .follower 1002 .unused State.reset)))).map
      (fun t => (t.hwi.sync, t.hwi.frame, t.hwi.counters[3], t.evu.latches)) = some (.locked, 1003, 0, 0) := by decide +kernel

/-- 01 section 1.10: Header 1010 where the local number is 1005. With no switch pending no map test falls due (02 R29). -/
theorem test_follower_header_slip :
    (after (exec (.followerHeaderSlot (slotWord .header 1010))
      (inHeader (locked .follower 1005 .unused State.reset)))).map
      (fun t => (t.hwi.frame, t.hwi.counters[4], t.evu.latches, t.map.dueFrame)) =
      some (1010, 1, 8, none) := by decide +kernel

/-- 01 section 1.10: a Header with a check error leaves the local number 1004. -/
theorem test_follower_header_fault :
    (after (exec (.followerHeaderSlot (slotWord .header 1004 ^^^ 1))
      (inHeader (locked .follower 1004 .unused State.reset)))).map
      (fun t => (t.hwi.frame, t.hwi.counters[2], t.evu.latches)) = some (1004, 1, 0x40) := by decide +kernel

/-- 01 R15: a clash in slot 0. -/
theorem test_master_header_clash :
    (after (exec (.masterHeaderSlot 0) (inHeader (locked .master 3 .unused State.reset)))).map
      (fun t => (t.hwi.sync, t.hwi.counters[1], t.evu.latches)) = some (.off, 1, 0x44) := by decide +kernel

/-! ### Steps that fall due -/

/-- 02 section 2.10: the frame start of 4000. -/
theorem test_map_switch :
    (after (exec .mapSwitch (locked .follower 4000 .txControl { State.reset with
      map := { SlotMap.reset with bankB := SlotMap.reset.bankB.set 4 (.txData 2), target := some 4000,
                                  dueFrame := some 4000 } }))).map
      (fun t => (t.map.active, t.map.target, t.map.bankA[4], t.map.bankA[1], t.evu.latches)) =
      some (.b, none, .txData 2, .unused, 0x10) := by decide +kernel

/-- 02 section 2.11: F = 4002 passes the target 4000. -/
theorem test_map_switch_late :
    (after (exec .mapSwitch { State.reset with
      map := { SlotMap.reset with target := some 4000, dueFrame := some 4002 } })).map
      (fun t => (t.map.active, t.evu.latches)) = some (.b, 0x30) := by decide +kernel

/-- 05 section 5.7: the expiry of frame 264. -/
theorem test_answer_timer :
    (after (exec (.answerTimerExpiry 0) (withChan { chanIn .opening .credit with
      link := ⟨.opening, .none, some 0, 3⟩ }))).map
      (fun t => ((t.chan 0).link, t.lnk.queue)) =
      some (⟨.opening, .none, some 64, 2⟩, [⟨0, .request, .open_, 9, 7, false⟩]) := by decide +kernel

/-- 06 R108 with probe delay 32. -/
theorem test_probe_timer :
    (after (exec (.probeTimerExpiry 0) (withChan { chanIn .opened .credit with probe := some 32 }))).map
      (fun t => ((t.chan 0).probe, t.lnk.queue)) = some (some 0, [⟨0, .request, .probe, 9, 7, false⟩]) := by decide +kernel

/-- 12 section 12.10: the refresh of frame 710 sets both marks. -/
theorem test_refresh_timer :
    (after (exec .refreshTimerExpiry { withChan (chanIn .opened .credit) with
      lnk := { LinkControl.reset with refreshInterval := 1, refreshCount := 16 } })).map
      (fun t => (t.lnk.refreshCount, (t.chan 0).wordMark.set, (t.chan 0).msgMark.set, (t.chan 1).wordMark.set)) =
      some (0, true, true, false) := by decide +kernel

/-- 05 section 5.8: the list of station 9 empties in YIELD. -/
theorem test_drain_completion :
    (after (exec (.drainCompletion 0) (withChan (chanIn .yield .credit)))).map
      (fun t => ((t.chan 0).link.state, (t.chan 0).link.cause, t.lnk.queue)) =
      some (.closed, .closed, [⟨0, .response, .closeAck, 9, 7, false⟩]) := by decide +kernel

/-! ### Slots -/

/-- 12 section 12.8: the First of a 12-word message under credit 31/16. -/
theorem test_txdata_offer :
    (after (exec (.txdataOffer 1) (locked .follower 103 (.txData 0) (withChan { chanIn .opened .credit with
      tx := { TxSide.reset with messages := [message 0] }
      credits := { Credits.zero with wordHeard := 31, msgHeard := 16 } })))).map
      (fun t => (t.hwi.line, (t.chan 0).tx.onLine)) =
      some (some ⟨0b01000000000000000001, .creditData 0⟩, true) := by decide +kernel

/-- 07 R114: without message credit nothing is sent. -/
theorem test_txdata_offer_without_credit :
    (after (exec (.txdataOffer 1) (locked .follower 102 (.txData 0) (withChan { chanIn .opened .credit with
      tx := { TxSide.reset with messages := [message 0] }
      credits := { Credits.zero with wordHeard := 31 } })))).map
      (fun t => (t.hwi.line, t.hwi.position)) = some (none, .served 1) := by decide +kernel

/-- 01 section 1.11: station 3 reads back the word of station 9. -/
theorem test_txdata_report_clash :
    (after (exec (.txdataReport (slotWord .middle 0x1230)) (onLine (.creditData 0) (slotWord .middle 0x1234)
      (locked .follower 103 (.txData 0) (withChan { chanIn .opened .credit with
        tx := { TxSide.reset with messages := [message 2], onLine := true } }))))).map
      (fun t => (t.hwi.counters[1], t.evu.latches, (t.chan 0).tx.messages)) =
      some (1, 0x40, [{ message 3 with clashed := true }]) := by decide +kernel

/-- 07 section 7.5: the Last of tag 7 gives the entry and frees twelve words. -/
theorem test_txdata_report_last :
    (after (exec (.txdataReport (slotWord .last 1)) (onLine (.creditData 0) (slotWord .last 1)
      (locked .follower 140 (.txData 0) (withChan { chanIn .opened .credit with
        tx := { TxSide.reset with messages := [{ message 11 with clashed := true }], onLine := true } }))))).map
      (fun t => (t.cq.entries, (t.chan 0).tx.messages, (t.chan 0).tx.free)) =
      some ([⟨0, 7, .clashed, false, 140⟩], [], 12) := by decide +kernel

/-- 04 section 4.7: the queue head goes out as 0x5227. -/
theorem test_txcontrol_offer :
    (after (exec (.txcontrolOffer 1) (locked .follower 101 .txControl { State.reset with
      lnk := { LinkControl.reset with queue := [⟨7, .response, .openAck, 5, 2, false⟩] } }))).map
      (fun t => t.hwi.line) = some (some ⟨0b00001010010001001111, .control⟩) := by decide +kernel

/-- 12 section 12.8: WordLevel 31 of channel 0 from an empty queue; last position 0. -/
theorem test_txcontrol_offer_level :
    (after (exec (.txcontrolOffer 1) (locked .follower 102 .txControl (withChan { chanIn .opened .credit with
      wordMark := Mark.raised, msgMark := Mark.raised
      credits := { Credits.zero with wordGranted := 31, msgGranted := 16 } })))).map
      (fun t => (t.hwi.line, t.lnk.lastPosition)) =
      some (some ⟨slotWord .control (controlPayload 9 7 .wordLevel 31), .control⟩, 0) := by decide +kernel

/-- 04 section 4.8: a clash keeps the entry. -/
theorem test_txcontrol_report_clash :
    (after (exec (.txcontrolReport 0) (onLine .control (slotWord .control 0x5227)
      (locked .follower 100 .txControl { State.reset with
        lnk := { LinkControl.reset with queue := [⟨7, .response, .openAck, 5, 2, true⟩] } })))).map
      (fun t => (t.lnk.queue, t.hwi.counters[1])) = some ([⟨7, .response, .openAck, 5, 2, false⟩], 1) := by decide +kernel

/-- 06 section 6.7: the First of a 20-word message. -/
theorem test_rxdata_word :
    (after (exec (.rxdataWord 1 (slotWord .first 0xBEEF)) (locked .follower 103 (.rxData 0)
      (withChan { chanIn .opened .credit with
        rxRegion := ⟨1, 2⟩
        credits := { Credits.zero with wordGranted := 31, msgGranted := 16 } })))).map
      (fun t => ((t.chan 0).credits.wordGranted, (t.chan 0).credits.wordCounted, (t.chan 0).credits.msgCounted,
        (t.chan 0).rx.held, Memory.read t.memory 16)) = some (0, 1, 1, 1, 0xBEEF) := by decide +kernel

/-- 06 section 6.8: the Last without credit. -/
theorem test_rxdata_violation :
    (after (exec (.rxdataWord 1 (slotWord .last 1)) (locked .follower 103 (.rxData 0)
      (withChan { chanIn .opened .credit with
        rx := ⟨0, [{ record false with length := 16 }], false⟩
        credits := { Credits.zero with wordGranted := 17, wordCounted := 17, msgGranted := 16, msgCounted := 1 } })))).map
      (fun t => ((t.chan 0).counters[4], (t.chan 0).latches,
        (t.chan 0).rx.records.map (fun r => (r.length, r.complete, r.flags.damaged)))) =
      some (1, 8, [(16, true, true)]) := by decide +kernel

/-- 04 section 4.7 and 05 R81: the OpenAck reaches channel 2 in OPENING. -/
theorem test_rxcontrol_word :
    (after (exec (.rxcontrolWord 1 0b00001010010001001111) (locked .follower 101 (.rxControl 9)
      (State.reset.setChan 2 (chanIn .opening .credit))))).map
      (fun t => ((t.chan 2).link.state, (t.chan 2).credits.wordGranted, (t.chan 2).probe)) =
      some (.opened, 16, some 0) := by decide +kernel

/-- 04 section 4.8: an unmatched Close from station 12 draws a Reset. -/
theorem test_rxcontrol_unmatched :
    (after (exec (.rxcontrolWord 1 (slotWord .control (controlPayload 5 2 .close 0)))
      (locked .follower 100 (.rxControl 12) (State.reset.setChan 2 (chanIn .opening .credit))))).map
      (fun t => (t.hwi.counters[8], t.lnk.queue)) = some (1, [⟨2, .response, .reset, 12, 0, false⟩]) := by decide +kernel

/-- 02 R24. -/
theorem test_unused_slot_word :
    (after (exec (.unusedSlotWord 1 (slotWord .only 3)) (locked .follower 9 .unused State.reset))).map
      (fun t => (t.hwi.counters[5], t.evu.latches)) = some (1, 0) := by decide +kernel

/-! ### Witnesses: states and operands that meet the hypotheses of the statements, clause by clause -/

/-- A credit channel in OPEN with one message of 12 words, credit for it, and a grant outstanding. -/
def sender : Channel :=
  { chanIn .opened .credit with
    probe := some 0
    tx := { TxSide.reset with messages := [message 0] }
    credits := { Credits.zero with wordHeard := 31, msgHeard := 16, wordGranted := 16, msgGranted := 16 } }

/-- A stream channel in OPEN with FIFO words, an open message, and the message before it in progress. -/
def streamer (fifo : List Bool) : Channel :=
  { chanIn .opened .stream with tx := { TxSide.reset with fifo := fifo, openMessage := true, inProgress := true } }

/-- A busy part: it meets every invariant and has an offer waiting. -/
def busy : State :=
  State.evaluate { locked .follower 103 (.txData 0) (withChan sender) with
    cq := { Completions.reset with reservations := 1 }
    pending := [.txdataOffer 1] }

theorem witness_StepRunsFrontCommand :
    busy.pending = .txdataOffer 1 :: [] ∧ State.reset.pending = [] := by decide +kernel

theorem witness_ResetPinHoldsThePart :
    { busy with resetPin := true }.resetPin = true ∧ ∀ b, Instr.start ≠ .resetPin b := by decide +kernel

theorem witness_SoftResetKeepsConfiguration : busy.resetPin = false := by decide +kernel

theorem witness_ResultsBelongToTheirCommands :
    (after (exec .cancel State.reset)).map (fun t => decide (t.host.deviceResult ≠ State.reset.host.deviceResult)) =
      some true ∧
    (after (exec .chanListen State.reset)).map
      (fun t => decide (t.host.channelResult ≠ State.reset.host.channelResult)) = some true ∧
    (after (exec (.cqthrWrite 33) State.reset)).map
      (fun t => decide (t.host.deviceResult ≠ State.reset.host.deviceResult)) = some true ∧
    Instr.cqthrWrite 33 ∈ refusableWrites 33 := by decide +kernel

theorem witness_EventUnitFollowsItsInputs : EventsFollow busy ∧ (after (step busy)).isSome = true := by
  unfold EventsFollow
  decide +kernel

theorem witness_MemoryStaysCanonical :
    Memory.wf { busy with memory := [(5, 1)] }.memory = true ∧
      (after (step { busy with memory := [(5, 1)] })).isSome = true := by decide +kernel

theorem witness_ReservationsStayBalanced : ReservationsBalance busy ∧ (after (step busy)).isSome = true := by
  unfold ReservationsBalance
  decide +kernel

theorem witness_CreditBoundsHold :
    CreditsBounded busy ∧ LineAgrees busy ∧ (after (step busy)).isSome = true := by
  refine ⟨by unfold CreditsBounded; decide +kernel, ?_, by decide +kernel⟩
  have h : ∀ c : Chan, (busy.chan c).tx.onLine = false := by decide +kernel
  intro c hc
  rw [h c] at hc
  simp at hc

theorem witness_LiveRegionsStayApart : RegionsApart busy ∧ (after (step busy)).isSome = true := by
  unfold RegionsApart
  decide +kernel

theorem witness_ControlQueueStaysInOrder :
    QueueInOrder { busy with lnk := { LinkControl.reset with queue := [⟨7, .response, .openAck, 5, 2, false⟩] } } ∧
      (after (step busy)).isSome = true := by
  unfold QueueInOrder
  decide +kernel

theorem witness_SlotPlanStaysValid : PlanValid busy ∧ (after (step busy)).isSome = true := by
  unfold PlanValid
  decide +kernel

theorem witness_TimersStayWithTheirStates : TimersFollowLinks busy ∧ (after (step busy)).isSome = true := by
  unfold TimersFollowLinks
  decide +kernel

theorem witness_SendingSidesStaySound : SendingSidesSound busy ∧ (after (step busy)).isSome = true := by
  unfold SendingSidesSound
  decide +kernel

theorem witness_RecordsStayInOrder :
    RecordsInOrder { busy with chans := busy.chans.set 0 { sender with rx := ⟨0, [record true, record false], false⟩ } } ∧
      (after (step busy)).isSome = true := by
  unfold RecordsInOrder
  decide +kernel

theorem witness_TheLineIsDrivenInOwnSlotsOnly_clock :
    (locked .master 3 .unused State.reset).drivesClock = true ∧ busy.drivesClock = false := by decide +kernel

theorem witness_TheLineIsDrivenInOwnSlotsOnly :
    let sending := onLine (.creditData 0) (slotWord .first 1) { busy with
      hwi := { busy.hwi with position := .served 1 } }
    LineInService sending ∧ sending.drivenWord = some (slotWord .first 1) ∧
      (after (step { sending with pending := [.txdataReport 0] })).isSome = true := by
  refine ⟨⟨?_, by decide +kernel⟩, by decide +kernel, by decide +kernel⟩
  intro l h
  obtain rfl : ⟨slotWord .first 1, .creditData 0⟩ = l := by simpa [onLine] using h
  exact ⟨by decide +kernel, by decide +kernel, 1, by decide +kernel⟩

theorem witness_OnlyStoresChangeMemory :
    Memory.wf busy.memory = true ∧ Instr.cdataWrite 5 ≠ .resetPin true ∧
      (after (exec (.cdataWrite 5) busy)).map
        (fun t => decide (Memory.read t.memory 12 ≠ Memory.read busy.memory 12)) = some true := by decide +kernel

theorem witness_LinkChangesAreReported :
    (after (exec .chanReset busy)).map (fun t => decide ((t.chan 0).link.state ≠ (busy.chan 0).link.state)) =
      some true := by decide +kernel

theorem witness_CountersOnlyAdvance :
    (after (exec (.followerHeaderSlot 1) (inHeader busy))).map
      (fun t => decide (t.hwi.counters[2] ≠ busy.hwi.counters[2])) = some true ∧
    (after (exec (.followerHeaderSlot 1) { inHeader busy with hwi := { (inHeader busy).hwi with
      counters := Vector.replicate 9 255 } })).map (fun t => (t.hwi.counters[2], t.evu.latches.getLsbD 6)) =
      some (255, true) := by decide +kernel

theorem witness_DueStepsComeFirst :
    1 ≤ busy.lnk.answerTimeout ∧ 1 ≤ busy.lnk.probeDelay ∧ busy.quiet = true ∧
      Instr.txdataOffer 1 ∈ frameEvents 1 0 0 ∧
      (after (exec (.txdataOffer 1) busy)).map (fun t => decide (t.hwi ≠ busy.hwi)) = some true ∧
      busy.resetPin = false ∧ dueSteps.length = 50 ∧ Instr.acquirePulse 7 ∈ otherEvents 0 7 ∧
      Instr.txdataReport 0 ∈ otherEvents 0 7 ∧ Instr.txcontrolReport 0 ∈ otherEvents 0 7 ∧
      (after (exec (.acquirePulse 7) (inSync .acquire busy))).isSome = true ∧
      (after (exec (.txdataReport 0) (onLine (.creditData 0) 0 busy))).isSome = true ∧
      (after (exec (.txcontrolReport 0) (onLine .control 0 busy))).isSome = true := by decide +kernel

/-- A drain completion of channel 1 and the answer-timer expiry of channel 2 are due (05 R88, R91). -/
def due : State :=
  (busy.setChan 1 (chanIn .drain .credit)).setChan 2 { chanIn .opening .credit with
    link := { LinkRecord.reset with state := .opening, answerTimer := some 0, retriesLeft := 1 } }

/-- Run in the order of `dueSteps`, the rows leave what taking the due steps leaves: the expiry's Open first. -/
theorem test_due_steps_are_their_rows :
    due.quiet = false ∧
      (after (execAll dueSteps due)).map (·.lnk.queue.map (fun e => (e.chan, e.opcode))) =
        some [(2, .open_), (1, .close)] ∧
      due.takeDue.lnk.queue.map (fun e => (e.chan, e.opcode)) = [(2, .open_), (1, .close)] ∧
      (due.takeDue.chan 1).link.state = .closeWait := by decide +kernel

theorem witness_EventsOutOfPlaceChangeNothing :
    State.reset.hwi.sync ≠ .acquire ∧ State.reset.hwi.betweenSlots = false ∧ State.reset.hwi.followerRuns = false ∧
      State.reset.hwi.masterRuns = false ∧ State.reset.takeDue.slotReady 1 = false ∧ State.reset.hwi.line = none ∧
      (tsel 1 0 State.reset).host.table ≠ 0 ∧ (tsel 1 0 State.reset).host.table ≠ 2 ∧
      (tsel 1 0 State.reset).host.table ≠ 3 ∧ (tsel 1 0 State.reset).host.table ≠ 4 ∧
      (tsel 1 0 State.reset).host.table ≠ 5 ∧ 4 ≤ (tsel 4 0 State.reset).host.table ∧
      1 ≤ ((6 : Word).extractLsb' 0 4).toNat ∧ ((6 : Word).extractLsb' 0 4).toNat ≤ 6 ∧
      ((8 : Word).extractLsb' 0 4).toNat ≤ 8 ∧ busy.hwi.position ≠ .header ∧
      (inSync .holdover busy).hwi.sync = .holdover ∧
      (∀ bits, (onLine (.creditData 0) 1 busy).hwi.line ≠ some ⟨bits, .control⟩) ∧
      (onLine .control 1 busy).hwi.line = some ⟨1, .control⟩ := by
  refine ⟨by decide, by decide, by decide, by decide, by decide +kernel, by decide, by decide, by decide, by decide,
    by decide, by decide, by decide, by decide, by decide, by decide, by decide, by decide, ?_, rfl⟩
  intro bits h
  simp [onLine] at h

theorem witness_EventsOutOfPlaceChangeNothing_hsync :
    (held 1 busy).hwi.hsyncBit = some 0 ∧ (held 8 busy).hwi.frameBit + 7 ≤ 7 ∧
      (held 160 busy).hwi.frameBit + 20 * (held 160 busy).slots ≤ 159 + 1 ∧
      (held 161 busy).hwi.frameBit + 20 * (held 161 busy).slots ≤ 160 := by decide +kernel

theorem witness_WordFormatsRoundTrip : receive (slotWord .only 0xFFFF) = .word .only 0xFFFF := by decide +kernel

theorem witness_QueuedEntryTakesItsPlace :
    let old : CtlEntry := ⟨7, .response, .openAck, 5, 2, true⟩
    let new : CtlEntry := ⟨7, .response, .reset, 5, 2, false⟩
    let other : CtlEntry := ⟨6, .request, .open_, 5, 2, false⟩
    new.chosen = false ∧ ([other, old].map (fun x => (x.chan, x.cls))).Nodup ∧
      (∀ x ∈ [other], (x.chan, x.cls) ≠ (new.chan, new.cls)) ∧ (old.chan, old.cls) = (new.chan, new.cls) := by
  decide +kernel

/-- The second part of the statement, at its two forms. -/
theorem witness_QueuedEntryTakesItsPlace_probe :
    let probe : CtlEntry := ⟨7, .request, .probe, 5, 2, false⟩
    let ack : CtlEntry := ⟨7, .response, .openAck, 5, 2, false⟩
    let other : CtlEntry := ⟨6, .request, .open_, 5, 2, false⟩
    ([probe, other, ack].map (fun x => (x.chan, x.cls))).Nodup ∧
      deferProbe 7 [probe, other, ack] = [other, ack, probe] ∧ deferProbe 7 [ack, other, probe] = [ack, other, probe] ∧
      deferProbe 7 [probe, other] = [probe, other] := by decide +kernel

/-- 05 R82: a queued Probe is sent after the OpenAck of the restart, which joins the tail (04 R61). -/
theorem test_peer_restart_defers_probe :
    let probe : CtlEntry := ⟨0, .request, .probe, 9, 7, false⟩
    let other : CtlEntry := ⟨6, .request, .open_, 5, 2, false⟩
    let s : State := withChan (chanIn .opened .credit)
    ({ s with lnk := { s.lnk with queue := [probe, other] } }.peerRestart 0).lnk.queue =
      [other, ⟨0, .response, .openAck, 9, 7, false⟩, probe] := by decide +kernel

theorem witness_RegionValidationMakesFiveTests :
    busy.chan 0 = sender ∧ busy.regionsValid 0 = true ∧ Region.overlaps ⟨255, 1⟩ ⟨250, 6⟩ = true := by decide +kernel

theorem witness_StartRewritesSurplusControl :
    (8 : Nat) = SlotMap.reset.checkedN ∧ (16 : Nat) ≠ SlotMap.reset.checkedN ∧ SlotMap.reset.target = none ∧
      { SlotMap.reset with target := some 5 }.target ≠ none := by decide +kernel

theorem witness_NewEpochStartsFromZero :
    (withChan (chanIn .listen .credit)).chan 0 = chanIn .listen .credit ∧
      (chanIn .listen .credit).link.state ≠ .opened ∧ (chanIn .closed .stream).config.mode = .stream ∧
      (chanIn .closed .stream).link.state ≠ .opened ∧ sender.config.mode = .credit ∧ sender.link.state = .opened ∧
      0 < sender.tx.held ∧ sender.rx.openRecord = none ∧
      ({ sender with rx := ⟨0, [record true, record false], false⟩ } : Channel).rx.openRecord =
        some (record false) := by decide +kernel

theorem witness_ClearDownEmptiesTheChannel :
    busy.chan 0 = sender ∧ sender.link.state ≠ .closed ∧ 0 < sender.tx.held ∧
      ({ sender with rx := ⟨0, [record false], false⟩ } : Channel).rx.openRecord = some (record false) := by
  decide +kernel

theorem witness_ArrivingWordsAreCounted :
    Kind.isData .first = true ∧ sender.creditConnected = true ∧
      sender.rx.held + sender.credits.outstandingWords ≤ sender.rxRegion.capacity ∧
      sender.rx.records.length + sender.credits.outstandingMsgs ≤ 16 ∧
      ¬ (sender.credits.outstandingWords = 0 ∨
        (Kind.starts .first = true ∧ sender.credits.outstandingMsgs = 0)) ∧
      { sender with credits := Credits.zero }.credits.outstandingWords = 0 ∧
      ({ sender with rx := ⟨0, [record false], false⟩ } : Channel).rx.openRecord = some (record false) ∧
      sender.rx.openRecord = none ∧ sender.rx.discard = false ∧ Kind.starts .middle = false ∧
      ({ sender with rx := ⟨0, [], true⟩ } : Channel).rx.discard = true ∧
      (chanIn .closed .credit).creditConnected = false := by decide +kernel

theorem witness_AssemblyBuildsRecords :
    sender.rx.openRecord = none ∧
      ({ sender with rx := ⟨0, [record false], false⟩ } : Channel).rx.openRecord = some (record false) ∧
      ({ sender.config with maxLength := 3 } : ChanConfig).maxLength ≤ (record false).length ∧
      (record false).length < sender.config.maxLength ∧ sender.rx.held < sender.rxRegion.capacity ∧
      (chanIn .opened .stream).config.mode = .stream ∧ (streamer []).rx.records.length < 16 ∧
      ({ streamer [] with rxRegion := ⟨0, 0⟩, rx := ⟨0, [record false], false⟩ } : Channel).rx.openRecord =
        some (record false) ∧
      (Channel.rxRegion { streamer [] with rxRegion := ⟨0, 0⟩ }).capacity ≤ (streamer []).rx.held ∧
      16 ≤ (List.replicate 16 (record true)).length ∧ Kind.starts .only = true ∧
      ({ streamer [] with rx := ⟨0, List.replicate 15 (record true) ++ [record false], false⟩ } : Channel).rx.openRecord =
        some (record false) := by decide +kernel

theorem witness_StartStartsTheHighway :
    State.reset.hwi.sync = .off ∧ State.reset.hwi.role = .follower ∧
      { Highway.reset with role := .master }.role = .master ∧ busy.hwi.sync ≠ .off := by decide +kernel

theorem witness_StopStopsTheHighway :
    State.reset.hwi.sync = .off ∧ (inSync .acquire State.reset).hwi.sync = .acquire ∧ busy.hwi.sync = .locked ∧
      busy.resetPin = false ∧ busy.quiet = true := by decide +kernel

theorem witness_HighwayLossIsHandedToTheBlocks :
    busy.resetPin = false ∧ busy.quiet = true ∧ busy.hwi.role = .follower ∧ busy.hwi.hsyncBit = none ∧ busy.hwi.sync = .locked ∧
      (inSync .holdover busy).hwi.betweenSlots = true ∧ (inSync .holdover busy).quiet = true ∧ 159 < 20 * busy.slots ∧
      (inHeader (locked .master 3 .unused State.reset)).quiet = true ∧ slotWord .header 3 &&& ~~~(0 : SlotBits) ≠ 0 := by
  decide +kernel

theorem witness_MapSwitches :
    let armed (t f : Word) : State := { busy with map := { SlotMap.reset with target := some t, dueFrame := some f } }
    (armed 4000 4000).map.target ≠ none ∧ busy.map.target = none ∧
      2 ≤ txControlCount ((SlotMap.reset.bankB.set 1 .txControl).set 7 .txControl) 8 ∧
      txControlCount busy.map.pendingBank busy.slots ≤ 1 ∧ State.reset.hwi.sync = .off ∧ busy.hwi.sync ≠ .off ∧
      busy.map.dueFrame = none ∧ ((4000 : Word) - 4000).toNat = 0 ∧ 32768 ≤ ((4000 : Word) - 36768).toNat ∧
      1 ≤ ((4000 : Word) - 3999).toNat ∧ ((32767 : Word) - 0).toNat ≤ 32767 := by decide +kernel

theorem witness_CancelAndPopAct :
    { SlotMap.reset with target := some 5 }.target ≠ none ∧ State.reset.map.target = none ∧
      { Completions.reset with entries := [⟨7, 1, .sent, false, 105⟩] }.entries = ⟨7, 1, .sent, false, 105⟩ :: [] ∧
      State.reset.cq.entries = [] := by decide +kernel

theorem witness_OpenAndListenLeaveClosed :
    let idle := chanIn .closed .credit
    let fresh := chanIn .closed .stream
    (withChan idle).regionsValid 0 = true ∧ (withChan fresh).regionsValid 0 = true ∧
      (withChan (chanIn .listen .credit)).regionsValid 0 = true ∧ State.reset.regionsValid 0 = false ∧
      { idle with rx := ⟨0, [record true], false⟩ }.rx.records ≠ [] ∧ idle.rx.records = [] ∧ idle.tx.composing = 0 ∧
      fresh.tx.fifo = [] ∧ (streamer [true]).tx.fifo ≠ [] ∧ idle.link.state = .closed ∧
      sender.link.state ≠ .closed ∧ sender.link.state ≠ .listen := by decide +kernel

theorem witness_CloseDrainsOrCloses :
    sender.link.state = .opened ∧ sender.tx.messages ≠ [] ∧ (chanIn .opened .credit).tx.messages = [] ∧
      (streamer [true]).config.mode = .stream ∧ (streamer [true]).tx.fifo ≠ [] ∧
      (chanIn .opened .stream).tx.fifo = [] ∧ (chanIn .opened .stream).tx.inProgress = false ∧
      (chanIn .opening .credit).link.state = .opening ∧ (chanIn .yield .credit).link.state = .yield := by
  decide +kernel

theorem witness_ResetAbandonsTheChannel :
    (chanIn .fault .credit).link.state = .fault ∧ sender.link.state.connected = true ∧
      (streamer []).link.state.connected = true ∧ (chanIn .opening .credit).link.state = .opening := by decide +kernel

theorem witness_FlushEmptiesClosedChannels :
    (withChan (chanIn .fault .credit)).chan 0 = chanIn .fault .credit ∧ (chanIn .fault .credit).link.state = .fault ∧
      sender.link.state ≠ .closed ∧ sender.link.state ≠ .fault := by decide +kernel

theorem witness_CreditPostAndAbandon :
    let ready : TxSide := { TxSide.reset with composing := 1 }
    sender.config.mode = .credit ∧ sender.link.state = .opened ∧ sender.tx.composing = 0 ∧ 0 < ready.composing ∧
      ready.spoiled = false ∧ { ready with spoiled := true }.spoiled = true ∧ ready.messages.length < 8 ∧
      8 ≤ (List.replicate 8 (message 0)).length ∧ busy.cq.reservations < 32 ∧
      32 ≤ { busy.cq with reservations := 32 }.reservations ∧ (chanIn .drain .credit).link.state ≠ .opened := by
  decide +kernel

theorem witness_StreamPostAndAbandon :
    (chanIn .opened .stream).tx.openMessage = false ∧ (streamer [true, false, false]).tx.openMessage = true ∧
      (streamer [true, false, false]).tx.fifo = [] ++ [true] ++ List.replicate 2 false ∧
      ([] : List Bool).length = (if (streamer [true, false, false]).tx.onLine then 1 else 0) ∧
      [true].getLast? ≠ some false ∧ (streamer []).tx.fifo = [] ++ [] ++ List.replicate 0 false ∧
      (streamer []).tx.inProgress = true ∧ (streamer []).tx.pendingEnd = false ∧
      (after (exec .chanPost (withChan { chanIn .opened .stream with tx := { TxSide.reset with
        fifo := [false], openMessage := true, restartMark := true } }))).map
        (fun t => ((t.chan 0).tx.fifo, (t.chan 0).tx.restartMark)) = some ([true], false) ∧
      (chanIn .closed .stream).link.state ≠ .opened ∧ (chanIn .closed .stream).link.state ≠ .drain := by decide +kernel

theorem witness_ReleaseFreesTheHead :
    let full : Channel := { sender with
      rx := ⟨0, [record true], false⟩
      credits := { Credits.zero with wordGranted := 13, msgGranted := 15 } }
    full.rx.records = record true :: [] ∧ (record true).complete = true ∧ (record false).complete = false ∧
      full.creditConnected = true ∧ full.rx.held + full.credits.outstandingWords ≤ full.rxRegion.capacity ∧
      full.rx.records.length + full.credits.outstandingMsgs ≤ 16 ∧ (streamer []).creditConnected = false := by
  decide +kernel

theorem witness_CdataStoresAndReads :
    sender.tx.spoiled = false ∧ sender.tx.composing < sender.config.maxLength ∧
      sender.tx.held < sender.txRegion.capacity ∧
      16 * (255 : Nat) + (0 + 15) % 16 < 4096 ∧ (streamer [true]).tx.held < (streamer [true]).txRegion.capacity ∧
      (chanIn .drain .credit).link.state ≠ .opened ∧ ({ sender with txRegion := ⟨0, 0⟩ } : Channel).txRegion.capacity ≤
        sender.tx.held ∧ (record true).readPos < (record true).length ∧
      { record true with readPos := 3 }.length ≤ { record true with readPos := 3 }.readPos := by decide +kernel

theorem witness_WordsOutsideTheMemoryFault :
    let out : Channel := { sender with
      txRegion := ⟨256, 1⟩, rxRegion := ⟨256, 1⟩, rx := ⟨0, [record true], false⟩ }
    let s := locked .follower 103 (.txData 0) (withChan out)
    s.resetPin = false ∧ s.quiet = true ∧ s.slotReady 1 = true ∧ s.entryOf 1 = .txData 0 ∧ out.writeTaken = true ∧
      4096 ≤ out.txStoreAddr ∧ 4096 ≤ out.rxRegion.wordAt out.rx.free 0 ∧
      ((out.offer 0).bind (·.source)) = some 4096 ∧ out.receiving = true ∧ (out.dataWord 103 .only).2 = true ∧
      4096 ≤ out.rxStoreAddr ∧ sender.txRegion.inside = true ∧ 0 < sender.txRegion.size := by decide +kernel

theorem witness_SettingsAreChecked :
    State.reset.hwi.sync = .off ∧ busy.hwi.sync ≠ .off ∧ (0x300 : Word).extractLsb' 0 8 = 0 ∧
      (0x3FF : Word).extractLsb' 0 8 ≠ 0 ∧ 1 ≤ ((1 : Word).extractLsb' 0 6).toNat ∧
      ((32 : Word).extractLsb' 0 6).toNat ≤ 32 ∧ 33 ≤ ((33 : Word).extractLsb' 0 6).toNat ∧
      ((64 : Word).extractLsb' 0 6).toNat = 0 := by decide +kernel

theorem witness_EventWritesClearAndEnable : busy.resetPin = false := by decide +kernel

theorem witness_SelectionAndUnlistedCodes :
    let f (w : Word) := ((w.extractLsb' 8 3).toNat, (w.extractLsb' 0 7).toNat)
    f 0x13F = (1, 63) ∧ f 0x140 = (1, 64) ∧ f 0x21F = (2, 31) ∧ f 0x220 = (2, 32) ∧ f 0x45F = (4, 95) ∧
      f 0x460 = (4, 96) ∧ f 0x508 = (5, 8) ∧ f 0x509 = (5, 9) ∧ f 0x600 = (6, 0) ∧
      PlainReg.unused 4 ≠ .darg ∧ ((7 : Word).extractLsb' 0 4).toNat = 7 ∧ ((9 : Word).extractLsb' 0 4).toNat = 9 ∧
      ((16 : Word).extractLsb' 0 4).toNat = 0 ∧ (31 : Fin 32).val = 27 + (4 : Fin 5).val ∧
      (31 : Fin 32) ≠ 16 ∧ (31 : Fin 32) ≠ 26 := by decide +kernel

theorem witness_TableWritesAreTakenOrRefused :
    (tsel 0 63 State.reset).host.table = 0 ∧ { SlotMap.reset with target := some 5 }.target ≠ none ∧
      State.reset.map.target = none ∧ ((0x500 : Word).extractLsb' 8 3).toNat = 5 ∧
      ((0x40F : Word).extractLsb' 8 3).toNat = 4 ∧ (tsel 2 31 State.reset).host.table = 2 ∧
      ((65 : Word).extractLsb' 0 7).toNat = 65 ∧ ((64 : Word).extractLsb' 0 7).toNat = 64 ∧
      sender.link.state ≠ .closed ∧ (chanIn .closed .credit).hasStoredWords = false ∧
      (tsel 3 95 State.reset).host.table = 3 ∧ ChanConfig.reset.write 3 0 = none ∧
      (ChanConfig.reset.write 0 0x100).isSome = true := by decide +kernel

theorem witness_TableReadsReturnAndClear :
    (tsel 3 95 State.reset).host.table ≤ 3 ∧ (tsel 4 95 State.reset).host.table = 4 ∧
      (tsel 5 8 State.reset).host.table = 5 ∧ (tsel 1 63 State.reset).host.table = 1 ∧
      State.reset.map.active = .a ∧ State.reset.map.bankB[63] = .unused ∧ busy.map.bankA[1] = .txData 0 ∧
      busy.tableWord 1 1 = 0x100 ∧ busy.chan 0 = sender ∧ sender.rxRegion.base < 256 ∧ sender.rxRegion.size ≤ 64 ∧
      busy.tableWord 2 1 = 0x101 ∧ busy.tableWord 3 0 = 0x097 ∧ sender.config.maxLength ≤ 256 ∧
      sender.config.rxThreshold ≤ 1024 ∧ sender.config.txThreshold ≤ 1024 := by decide +kernel

theorem witness_RegistersShowTheState :
    busy.chan busy.host.selected = sender ∧ busy.cq.entries.length ≤ 32 ∧ busy.map.target = none ∧
      sender.txRegion.capacity ≤ 1024 ∧ sender.tx.messages.length ≤ 8 ∧ (record true).length ≤ 256 ∧
      (record true).readPos ≤ (record true).length ∧ sender.creditConnected = true ∧ busy.host.creditView = false ∧
      (streamer []).creditConnected = false ∧ (0x0001 : Word) &&& 0x00FF ≠ 0 ∧ ((32 : Word) &&& 0x003F).toNat ≤ 32 ∧
      tselOfWord 0x508 ≠ none ∧ (chanIn .closed .credit).reconfigurable = true ∧
      ChanConfig.reset.write 0 0x100 ≠ none := by decide +kernel

theorem witness_FollowerKeepsLock :
    let h : Highway := { Highway.reset with sync := .acquire, lastPulse := some 1000 }
    let s : State := { State.reset with hwi := h }
    s.resetPin = false ∧ h.candidate = false ∧ h.lastPulse = some 1000 ∧ 1160 = 1000 + 20 * s.slots ∧
      { s with hwi := { h with candidate := true } }.quiet = true ∧
      receive (slotWord .header 1000) = .word .header 1000 ∧ receive (slotWord .header 1000 ^^^ 1) = .checkError ∧
      busy.hwi.role = .follower ∧ busy.hwi.betweenSlots = true ∧ busy.hwi.sync = .locked ∧ busy.quiet = true ∧
      busy.hwi.hsyncBit = none ∧ (held 1 busy).hwi.hsyncBit = some 0 ∧ 0 + 1 = (held 1 busy).hwi.frameBit + 1 ∧
      (held 1 busy).quiet = true ∧ (held 160 busy).hwi.hsyncBit = some 159 ∧
      159 + 1 = (held 160 busy).hwi.frameBit + 20 * (held 160 busy).slots ∧
      (held 1001 s).hwi.hsyncBit = some 1000 ∧ (held 1001 s).hwi.sync = .acquire := by
  decide +kernel

theorem witness_HeaderSlotGivesTheFrameStart :
    (inHeader busy).quiet = true ∧ (inHeader busy).hwi.position = .header ∧ busy.hwi.role = .follower ∧
      busy.hwi.sync = .locked ∧ receive (slotWord .header 103) = .word .header 103 ∧
      receive (slotWord .header 104) = .word .header 104 ∧ (104 : Word) ≠ busy.hwi.frame ∧
      receive (slotWord .fill 0) = .word .fill 0 ∧ (inHeader (locked .master 3 .unused State.reset)).quiet = true ∧
      slotWord .header 3 &&& ~~~(slotWord .header 3) = 0 ∧ busy.hwi.betweenSlots = true ∧
      busy.hwi.followerRuns = true ∧ (locked .master 3 .unused State.reset).hwi.masterRuns = true := by decide +kernel

theorem witness_TimersExpire :
    (⟨.opening, .none, some 0, 3⟩ : LinkRecord).answerTimer = some 0 ∧
      0 < (⟨.opening, .none, some 0, 3⟩ : LinkRecord).retriesLeft ∧ sender.link.answerTimer ≠ some 0 ∧
      sender.probe = some 0 ∧ (0 : Nat) < busy.lnk.probeDelay ∧ busy.lnk.probeDelay ≤ 32 ∧
      { busy.lnk with refreshInterval := 1 }.refreshInterval ≠ 0 ∧
      16 * 1 ≤ { busy.lnk with refreshInterval := 1, refreshCount := 16 }.refreshCount ∧
      busy.lnk.refreshInterval = 0 := by decide +kernel

theorem witness_DrainCompletionByState :
    (chanIn .drain .credit).tx.messages = [] ∧ (chanIn .yield .credit).tx.messages = [] ∧
      (chanIn .drain .stream).tx.fifo = [] ∧ (chanIn .drain .stream).tx.inProgress = false ∧ busy.hwi.line = none ∧
      sender.link.state ≠ .drain ∧ sender.link.state ≠ .yield ∧ sender.tx.messages ≠ [] ∧
      (streamer [true]).tx.fifo ≠ [] := by decide +kernel

theorem witness_CreditOfferSendsTheWordDue :
    busy.resetPin = false ∧ busy.quiet = true ∧ busy.slotReady 1 = true ∧ busy.entryOf 1 = .txData 0 ∧
      busy.chan 0 = sender ∧ sender.config.mode = .credit ∧ sender.link.state.connected = true ∧
      sender.tx.messages = message 0 :: [] ∧ 1 ≤ (sender.credits.wordHeard - sender.credits.wordUsed).toNat ∧
      1 ≤ (sender.credits.msgHeard - sender.credits.msgUsed).toNat ∧
      { sender with credits := Credits.zero }.credits.wordHeard =
        { sender with credits := Credits.zero }.credits.wordUsed := by decide +kernel

theorem witness_StreamSlotsSendTheFifo :
    let s (ch : Channel) := locked .follower 103 (.txData 0) (withChan ch)
    (s (streamer [true])).quiet = true ∧ (s (streamer [true])).slotReady 1 = true ∧
      (s (streamer [true])).entryOf 1 = .txData 0 ∧ (s (streamer [true])).chan 0 = streamer [true] ∧
      (streamer [true]).tx.pendingEnd = false ∧ (streamer [true]).tx.onLine = false ∧
      (streamer [true]).tx.fifo = true :: [] ∧ (streamer []).tx.fifo = [] ∧ (streamer []).tx.inProgress = true ∧
      (chanIn .opened .stream).tx.inProgress = false ∧ (chanIn .closed .stream).link.state ≠ .opened ∧
      (onLine (.streamWord 0) 1 (s (streamer [true]))).hwi.line = some ⟨1, .streamWord 0⟩ ∧
      (onLine (.streamFill 0) 1 (s (streamer []))).hwi.line = some ⟨1, .streamFill 0⟩ ∧
      (onLine (.streamEnd 0) 1 (s (streamer []))).hwi.line = some ⟨1, .streamEnd 0⟩ ∧
      (1 : SlotBits) &&& ~~~(0 : SlotBits) ≠ 0 := by decide +kernel

theorem witness_CreditReportSettlesTheWord :
    let sending : Channel := { sender with tx := { sender.tx with messages := [message 11], onLine := true } }
    let s := onLine (.creditData 0) (slotWord .last 1) (locked .follower 140 (.txData 0) (withChan sending))
    s.resetPin = false ∧ s.hwi.line = some ⟨slotWord .last 1, .creditData 0⟩ ∧ s.chan 0 = sending ∧
      sending.tx.onLine = true ∧ sending.tx.messages = message 11 :: [] ∧ (message 11).sent + 1 = (message 11).length ∧
      (message 0).sent + 1 ≠ (message 0).length ∧ sender.tx.onLine = false := by decide +kernel

theorem witness_ControlSlotArbitration :
    let marked : Channel := { sender with wordMark := Mark.raised }
    let s := locked .follower 102 .txControl (withChan marked)
    s.resetPin = false ∧ s.quiet = true ∧ s.slotReady 1 = true ∧ s.entryOf 1 = .txControl ∧ s.lnk.queue = [] ∧
      (0 : Fin 32).val = (s.lnk.lastPosition.val + 1 + 0) % 32 ∧ (s.markAt 0).set = true ∧
      (∀ p : Fin 32, (busy.markAt p).set = false) ∧ busy.lnk.queue = [] ∧
      { busy.lnk with queue := [⟨7, .response, .openAck, 5, 2, false⟩] }.queue =
        ⟨7, .response, .openAck, 5, 2, false⟩ :: [] ∧
      (onLine .control 1 s).hwi.line = some ⟨1, .control⟩ := by decide +kernel

theorem witness_ReceivedDataWordsAreDisposed :
    let s := locked .follower 103 (.rxData 0) (withChan sender)
    s.resetPin = false ∧ s.quiet = true ∧ s.slotReady 1 = true ∧ s.entryOf 1 = .rxData 0 ∧ s.chan 0 = sender ∧
      receive 1 = .checkError ∧ receive (slotWord .idle 0) = .word .idle 0 ∧
      receive (slotWord .control 0) = .word .control 0 ∧ receive (slotWord .only 5) = .word .only 5 ∧
      Kind.isData .only = true ∧ sender.receiving = true ∧ (chanIn .closed .credit).receiving = false ∧
      (streamer []).receiving = true ∧ sender.rxStoreAddr < 4096 ∧ (streamer []).rxRegion.size ≠ 0 ∧
      (locked .follower 103 .unused State.reset).entryOf 1 = .unused ∧
      (locked .follower 103 .unused State.reset).slotReady 1 = true := by decide +kernel

theorem witness_RxControlWordIsDisposed :
    let s := locked .follower 103 (.rxControl 9) (withChan sender)
    s.resetPin = false ∧ s.quiet = true ∧ s.slotReady 1 = true ∧ s.entryOf 1 = .rxControl 9 ∧
      receive 1 = .checkError ∧ receive (slotWord .idle 0) = .word .idle 0 ∧
      receive (slotWord .header 0) = .word .header 0 ∧
      receive (slotWord .control (controlPayload 5 0 .close 16)) = .word .control (controlPayload 5 0 .close 16) ∧
      (0 : Chan).val = (0 : Address).toNat ∧ (5 : Address) = s.hwi.station ∧ (6 : Address) ≠ s.hwi.station ∧
      16 ≤ (16 : BitVec 5).toNat ∧ (15 : BitVec 5).toNat < 16 ∧ sender.config.mode = .credit ∧
      sender.config.peerStation = 9 ∧ (7 : BitVec 5).toNat = sender.config.peerChannel.toNat := by decide +kernel

theorem witness_MatchedWordsFollowTable24 :
    busy.chan 0 = sender ∧ sender.config.mode = .credit ∧ sender.link.state.connected = true ∧
      (chanIn .closed .credit).link.state.connected = false ∧
      replyTo .opened .open_ false = some .openAck ∧ replyTo .opened .openAck false = none ∧
      sender.link.state = .opened ∧ sender.tx.messages ≠ [] ∧ (chanIn .opened .credit).tx.messages = [] ∧
      (chanIn .listen .credit).link.state = .listen ∧ (chanIn .opening .credit).link.state = .opening ∧
      (chanIn .drain .credit).link.state = .drain ∧ (chanIn .closeWait .credit).link.state = .closeWait ∧
      (chanIn .yield .credit).link.state = .yield ∧ (chanIn .fault .credit).link.state = .fault ∧
      sender.starved = false ∧ ({ sender with credits := { sender.credits with wordHeard := 0 } } : Channel).starved =
        true ∧ ({ sender with credits := { sender.credits with msgHeard := 0 } } : Channel).starved = true ∧
      ({ sender with credits := Credits.zero } : Channel).starved = true := by decide +kernel

end Sys2Proof.Tests
end

section
/-! SUPPORT. Outcomes by the property of their next state, and what the operations do to the counters of a channel
(03 R50): most keep them, and the others only advance them. -/

namespace Sys2Proof.Machine

-- One theorem after another, as in the tests: many at once ask for more threads than there are.
set_option Elab.async false

/-! ### Outcomes -/

/-- Every next state that the outcome answers has the property. -/
def Ensures (o : Out) (P : State → Prop) : Prop := ∀ t : State, o = .next t → P t

theorem Ensures.next {P : State → Prop} {s : State} (h : P s) : Ensures (.next s) P := by
  rintro t ⟨⟩
  exact h

theorem Ensures.fault {P : State → Prop} (f : Fault) : Ensures (.fault f) P := by
  rintro t ⟨⟩

theorem Ensures.mono {P Q : State → Prop} {o : Out} (h : Ensures o P) (hpq : ∀ t, P t → Q t) : Ensures o Q :=
  fun t ht => hpq t (h t ht)

/-- A command keeps a property when it has it from every live state, and RESET# changes nothing. -/
theorem Ensures.live {P : State → Prop} {s : State} {k : Out} (h0 : P s) (h : s.resetPin = false → Ensures k P) :
    Ensures (whenLive s k) P := by
  unfold whenLive
  split
  · exact .next h0
  · rename_i hr
    exact h (by simpa using hr)

@[simp] theorem State.evaluate_latches (s : State) : s.evaluate.evu.latches = s.evu.latches := rfl

/-! ### Counters of a vector -/

/-- Advancing one counter of several lowers none. -/
theorem toNat_le_set_advance {n : Nat} (v : Vector (BitVec 8) n) (i k : Fin n) :
    v[k].toNat ≤ (v.set i (advance v[i]))[k].toNat := by
  by_cases h : i = k
  · subst h
    simpa using toNat_le_advance v[i]
  · have hne : i.val ≠ k.val := fun e => h (Fin.ext e)
    simp [Vector.getElem_set_ne, hne]

/-- Advancing one counter leaves the others as they are. -/
theorem set_advance_ne {n : Nat} (v : Vector (BitVec 8) n) {i k : Fin n} (h : i ≠ k) :
    (v.set i (advance v[i]))[k] = v[k] := by
  have hne : i.val ≠ k.val := fun e => h (Fin.ext e)
  simp [Vector.getElem_set_ne, hne]

/-! ### Operations on a channel that keep its counters -/

section
variable (ch : Channel)

@[simp] theorem Channel.raise_counters (e : ChEvent) : (ch.raise e).counters = ch.counters := rfl
@[simp] theorem Channel.stopAnswer_counters : ch.stopAnswer.counters = ch.counters := rfl
@[simp] theorem Channel.stopTimers_counters : ch.stopTimers.counters = ch.counters := rfl
@[simp] theorem Channel.loadAnswer_counters (l : LinkControl) : (ch.loadAnswer l).counters = ch.counters := rfl
@[simp] theorem Channel.setMarks_counters : ch.setMarks.counters = ch.counters := rfl
@[simp] theorem Channel.clearMarks_counters : ch.clearMarks.counters = ch.counters := rfl
@[simp] theorem Channel.spend_counters (b : Bool) : (ch.spend b).counters = ch.counters := rfl
@[simp] theorem Channel.countArrival_counters (b : Bool) : (ch.countArrival b).counters = ch.counters := rfl
@[simp] theorem Channel.resetProbe_counters : ch.resetProbe.counters = ch.counters := rfl
@[simp] theorem Channel.zeroCredits_counters : ch.zeroCredits.counters = ch.counters := rfl
@[simp] theorem Channel.newEpoch_counters : ch.newEpoch.counters = ch.counters := rfl
@[simp] theorem Channel.dropHead_counters (m : TxMessage) (rest : List TxMessage) :
    (ch.dropHead m rest).counters = ch.counters := rfl
@[simp] theorem Channel.modNewest_counters (f : RxRecord → RxRecord) : (ch.modNewest f).counters = ch.counters := rfl
@[simp] theorem Channel.pushRecord_counters (w : Word) : (ch.pushRecord w).counters = ch.counters := rfl
@[simp] theorem Channel.setDiscard_counters (d : Bool) : (ch.setDiscard d).counters = ch.counters := rfl
@[simp] theorem Channel.dropComposing_counters : ch.dropComposing.counters = ch.counters := rfl
@[simp] theorem Channel.emptyRx_counters : ch.emptyRx.counters = ch.counters := rfl
@[simp] theorem Channel.flushTxSide_counters : ch.flushTxSide.counters = ch.counters := rfl
@[simp] theorem Channel.refuseWrite_counters : ch.refuseWrite.counters = ch.counters := rfl
@[simp] theorem Channel.advanceRead_counters (r : RxRecord) (rest : List RxRecord) :
    (ch.advanceRead r rest).counters = ch.counters := rfl
@[simp] theorem Channel.countFrame_counters : ch.countFrame.counters = ch.counters := rfl

@[simp] theorem Channel.moveTo_counters (st : LinkState) : (ch.moveTo st).counters = ch.counters := by
  unfold Channel.moveTo
  split <;> rfl

@[simp] theorem Channel.moveToWith_counters (st : LinkState) (cause : Cause) :
    (ch.moveToWith st cause).counters = ch.counters := ch.moveTo_counters st

@[simp] theorem Channel.grant_counters : ch.grant.counters = ch.counters := by
  rw [Channel.grant_shape]

@[simp] theorem Channel.releaseHead_counters (r : RxRecord) (rest : List RxRecord) :
    (ch.releaseHead r rest).counters = ch.counters := Channel.grant_counters _

@[simp] theorem Channel.flush_counters : ch.flush.counters = ch.counters := Channel.moveTo_counters _ _

@[simp] theorem Channel.appendWord_counters : ch.appendWord.counters = ch.counters := by
  unfold Channel.appendWord
  split <;> rfl

@[simp] theorem Channel.emptyTx_counters : ch.emptyTx.counters = ch.counters := by
  unfold Channel.emptyTx
  dsimp only
  split <;> rfl

@[simp] theorem Channel.endStarvation_counters (after : Channel) :
    (ch.endStarvation after).counters = after.counters := by
  unfold Channel.endStarvation
  split <;> rfl

@[simp] theorem Channel.hearWordLevel_counters (v : BitVec 5) : (ch.hearWordLevel v).counters = ch.counters :=
  ch.endStarvation_counters _

@[simp] theorem Channel.hearMsgLevel_counters (v : BitVec 5) : (ch.hearMsgLevel v).counters = ch.counters :=
  ch.endStarvation_counters _

@[simp] theorem Channel.closeOpen_counters (mark : RxFlags → RxFlags) (last : Option Word) :
    (ch.closeOpen mark last).counters = ch.counters := by
  unfold Channel.closeOpen
  split
  · rfl
  · dsimp only
    split <;> rfl

@[simp] theorem Channel.closeBroken_counters : ch.closeBroken.counters = ch.counters := ch.closeOpen_counters _ _

@[simp] theorem Channel.rxAbort_counters : ch.rxAbort.counters = ch.counters := ch.closeOpen_counters _ _

@[simp] theorem Channel.rxLoss_counters : ch.rxLoss.counters = ch.counters := ch.closeBroken_counters

@[simp] theorem Channel.damageOpen_counters : ch.damageOpen.counters = ch.counters := by
  unfold Channel.damageOpen
  split <;> rfl

@[simp] theorem Channel.clearDown_counters : ch.clearDown.counters = ch.counters := by
  unfold Channel.clearDown
  dsimp only
  split <;> simp

@[simp] theorem Channel.reportStreamWord_counters : ch.reportStreamWord.counters = ch.counters := by
  unfold Channel.reportStreamWord
  split <;> rfl

@[simp] theorem Channel.cutStream_counters : ch.cutStream.counters = ch.counters := by
  unfold Channel.cutStream
  dsimp only
  split <;> simp

@[simp] theorem Channel.cutTx_counters : ch.cutTx.counters = ch.counters := by
  unfold Channel.cutTx
  split
  · rfl
  · split <;> simp

@[simp] theorem Channel.loseHighway_counters : ch.loseHighway.counters = ch.counters :=
  (Channel.rxLoss_counters _).trans ch.cutTx_counters

@[simp] theorem Channel.rxCheckError_counters : ch.rxCheckError.counters = ch.counters := by
  unfold Channel.rxCheckError Channel.creditCheckError
  split
  · dsimp only
    split <;> simp
  · simp

end

/-! ### Operations on a channel that advance its counters -/

/-- No counter of the channel fell. -/
def Channel.CountersLe (a b : Channel) : Prop := ∀ k : Fin 6, a.counters[k].toNat ≤ b.counters[k].toNat

theorem Channel.CountersLe.of_eq {a b : Channel} (h : b.counters = a.counters) : a.CountersLe b := by
  intro k
  rw [h]

theorem Channel.CountersLe.trans {a b c : Channel} (h : a.CountersLe b) (k : b.CountersLe c) : a.CountersLe c :=
  fun i => (h i).trans (k i)

theorem Channel.countersLe_count (ch : Channel) (k : ChCounter) : ch.CountersLe (ch.count k) :=
  toNat_le_set_advance ch.counters k.index

theorem Channel.countersLe_storeWord (ch : Channel) : ch.CountersLe ch.storeWord.1 := by
  unfold Channel.storeWord
  split
  · exact .of_eq rfl
  · split
    · exact .of_eq rfl
    · exact .trans (b := ch.modNewest _) (.of_eq rfl) (Channel.countersLe_count _ _)

theorem Channel.countersLe_loseMessage (ch : Channel) (isFirst : Bool) : ch.CountersLe (ch.loseMessage isFirst) :=
  .trans (ch.countersLe_count .messagesLost) (.of_eq rfl)

theorem Channel.countersLe_assembleStart (ch : Channel) (frame : Word) (isOnly : Bool) :
    ch.CountersLe (ch.assembleStart frame isOnly).1 := by
  have hclose : ch.CountersLe ch.closeBroken := .of_eq ch.closeBroken_counters
  have hstore : ch.CountersLe (ch.closeBroken.pushRecord frame).storeWord.1 :=
    (hclose.trans (c := ch.closeBroken.pushRecord frame) (.of_eq rfl)).trans (Channel.countersLe_storeWord _)
  unfold Channel.assembleStart
  dsimp only
  split
  · exact hclose.trans (Channel.countersLe_loseMessage _ _)
  · split
    · exact hstore.trans (.of_eq (Channel.closeOpen_counters _ _ _))
    · exact hstore

theorem Channel.countersLe_assembleRest (ch : Channel) (frame : Word) (isLast : Bool) :
    ch.CountersLe (ch.assembleRest frame isLast).1 := by
  unfold Channel.assembleRest
  split
  · exact (ch.countersLe_count .orphans).trans (.of_eq rfl)
  · rename_i r _
    have hstore : ch.CountersLe
        (if ch.config.maxLength ≤ r.length then
          (ch.modNewest (fun r => { r with flags := { r.flags with truncated := true } }), false)
        else ch.storeWord).1 := by
      split
      · exact .of_eq rfl
      · exact ch.countersLe_storeWord
    dsimp only
    split
    · exact hstore.trans (.of_eq (Channel.closeOpen_counters _ _ _))
    · exact hstore

theorem Channel.countersLe_assemble (ch : Channel) (frame : Word) (k : Kind) :
    ch.CountersLe (ch.assemble frame k).1 := by
  cases k
  case first => exact ch.countersLe_assembleStart frame false
  case only => exact ch.countersLe_assembleStart frame true
  case middle => exact ch.countersLe_assembleRest frame false
  case last => exact ch.countersLe_assembleRest frame true
  all_goals exact .of_eq rfl

theorem Channel.countersLe_violation (ch : Channel) (frame : Word) (k : Kind) :
    ch.CountersLe (ch.violation frame k) := by
  have hcount : ch.CountersLe ((ch.count .creditViolations).raise .rxTrouble) :=
    (ch.countersLe_count _).trans (.of_eq rfl)
  refine hcount.trans (.of_eq ?_)
  cases k <;> simp [Channel.violation]

theorem Channel.countersLe_creditWord (ch : Channel) (frame : Word) (k : Kind) :
    ch.CountersLe (ch.creditWord frame k).1 := by
  unfold Channel.creditWord
  dsimp only
  split
  · exact ch.countersLe_violation frame k
  · split
    · refine .of_eq ((Channel.grant_counters _).trans ?_)
      split <;> rfl
    · refine .trans (b := (ch.countArrival k.starts).setDiscard false) (.of_eq rfl) ?_
      exact (Channel.countersLe_assemble _ frame k).trans (.of_eq (Channel.grant_counters _))

theorem Channel.countersLe_streamWord (ch : Channel) (frame : Word) (k : Kind) :
    ch.CountersLe (ch.streamWord frame k).1 := by
  unfold Channel.streamWord
  split
  · exact ch.countersLe_count _
  · split
    · refine .of_eq ?_
      dsimp only
      split <;> rfl
    · exact .trans (b := ch.setDiscard false) (.of_eq rfl) (Channel.countersLe_assemble _ frame k)

theorem Channel.countersLe_dataWord (ch : Channel) (frame : Word) (k : Kind) :
    ch.CountersLe (ch.dataWord frame k).1 := by
  unfold Channel.dataWord
  split
  · exact ch.countersLe_creditWord frame k
  · exact ch.countersLe_streamWord frame k

/-! ### Offers (07 R114, R122) -/

/-- What the engine's answer for channel `c` always is: a word of that channel, whose counters do not fall. -/
def Answer.Serves (a : Answer) (ch : Channel) (c : Chan) : Prop := ch.CountersLe a.after ∧ a.owner.use = .txData c

theorem Channel.offerCredit_serves (ch : Channel) (c : Chan) {a : Answer} (h : ch.offerCredit c = some a) :
    a.Serves ch c := by
  unfold Channel.offerCredit at h
  split at h
  · split at h
    · cases h
    · split at h
      · cases h
        exact ⟨.of_eq rfl, rfl⟩
      · cases h
  · cases h

theorem Channel.offerFifoWord_serves (ch : Channel) (c : Chan) (mark : Bool) : (ch.offerFifoWord c mark).Serves ch c := by
  unfold Channel.offerFifoWord
  dsimp only
  split
  · exact ⟨.of_eq rfl, rfl⟩
  · refine ⟨?_, rfl⟩
    dsimp only
    split
    · exact .trans (b := { ch with tx := _ }) (.of_eq rfl) (Channel.countersLe_count _ _)
    · exact .of_eq rfl

theorem Channel.offerStream_serves (ch : Channel) (c : Chan) {a : Answer} (h : ch.offerStream c = some a) :
    a.Serves ch c := by
  unfold Channel.offerStream at h
  split at h
  · split at h
    · cases h
      exact ⟨.of_eq rfl, rfl⟩
    · split at h
      · cases h
        exact ch.offerFifoWord_serves c _
      · split at h
        · cases h
          exact ⟨.of_eq rfl, rfl⟩
        · cases h
  · cases h

theorem Channel.offer_serves (ch : Channel) (c : Chan) {a : Answer} (h : ch.offer c = some a) : a.Serves ch c := by
  unfold Channel.offer at h
  split at h
  · exact ch.offerCredit_serves c h
  · exact ch.offerStream_serves c h

end Sys2Proof.Machine
end

section
/-! SUPPORT. The commands that act beside the highway: they leave the Highway Interface and the Slot Map as they are and
let no channel counter fall. -/

namespace Sys2Proof.Machine

-- One theorem after another, as in the tests: many at once ask for more threads than there are.
set_option Elab.async false

/-! ### Link operations keep the channel counters -/

/-- A change of one channel that keeps its counters keeps those of every channel. -/
theorem State.modChan_counters (s : State) (c d : Chan) {f : Channel → Channel}
    (hf : ∀ ch, (f ch).counters = ch.counters) : ((s.modChan c f).chan d).counters = (s.chan d).counters := by
  rw [State.chan_modChan]
  split
  · exact hf _
  · rfl

section
variable (s : State) (c d : Chan)

@[simp] theorem State.queueRequest_counters (op : Opcode) :
    ((s.queueRequest c op).chan d).counters = (s.chan d).counters := rfl

@[simp] theorem State.queueResponse_counters (op : Opcode) (station channel : Address) (matched : Bool) :
    ((s.queueResponse c op station channel matched).chan d).counters = (s.chan d).counters := by
  unfold State.queueResponse
  split <;> rfl

@[simp] theorem State.replyPeer_counters (op : Opcode) :
    ((s.replyPeer c op).chan d).counters = (s.chan d).counters := s.queueResponse_counters c d op _ _ _

@[simp] theorem State.flushTx_counters (status : CqStatus) :
    ((s.flushTx c status).chan d).counters = (s.chan d).counters := by
  unfold State.flushTx
  dsimp only
  split
  · exact State.modChan_counters _ c d Channel.emptyTx_counters
  · exact State.modChan_counters _ c d Channel.emptyTx_counters

@[simp] theorem State.closeConnected_counters (cause : Cause) :
    ((s.closeConnected c cause).chan d).counters = (s.chan d).counters :=
  (State.modChan_counters _ c d (f := fun ch => ch.clearDown.moveToWith .closed cause) fun ch => by simp).trans
    (s.flushTx_counters c d _)

@[simp] theorem State.enterOpen_counters : ((s.enterOpen c).chan d).counters = (s.chan d).counters := by
  refine State.modChan_counters _ c d fun ch => ?_
  dsimp only
  split <;> simp

@[simp] theorem State.enterFault_counters (cause : Cause) :
    ((s.enterFault c cause).chan d).counters = (s.chan d).counters :=
  (State.modChan_counters _ c d (f := fun ch => ch.stopTimers.moveToWith .fault cause) fun ch => by simp).trans
    (s.flushTx_counters c d _)

@[simp] theorem State.closeUnconnected_counters (cause : Cause) :
    ((s.closeUnconnected c cause).chan d).counters = (s.chan d).counters :=
  (State.modChan_counters _ c d fun ch => by simp).trans (s.flushTx_counters c d _)

@[simp] theorem State.closeUnopened_counters : ((s.closeUnopened c).chan d).counters = (s.chan d).counters :=
  s.closeUnconnected_counters c d _

@[simp] theorem State.peerRestart_counters : ((s.peerRestart c).chan d).counters = (s.chan d).counters := by
  unfold State.peerRestart
  dsimp only
  rw [State.modChan_counters _ c d fun ch => by simp, State.chan_deferProbe, State.replyPeer_counters,
    State.modChan_counters _ c d fun ch => by simp, State.flushTx_counters]

@[simp] theorem State.startOpening_counters : ((s.startOpening c).chan d).counters = (s.chan d).counters :=
  State.modChan_counters _ c d fun ch => by simp

@[simp] theorem State.completeDrain_counters : ((s.completeDrain c).chan d).counters = (s.chan d).counters := by
  unfold State.completeDrain
  dsimp only
  split
  · exact State.modChan_counters _ c d fun ch => by simp
  · simp
  · simp
  · rfl

@[simp] theorem State.takeDrain_counters : ((s.takeDrain c).chan d).counters = (s.chan d).counters := by
  unfold State.takeDrain
  split <;> simp

@[simp] theorem State.takeAnswerExpiry_counters :
    ((s.takeAnswerExpiry c).chan d).counters = (s.chan d).counters := by
  unfold State.takeAnswerExpiry
  dsimp only
  split
  · split
    · split
      · exact State.modChan_counters _ c d fun ch => rfl
      · split <;> simp
    · exact State.modChan_counters _ c d fun ch => rfl
  · rfl

@[simp] theorem State.takeProbeExpiry_counters :
    ((s.takeProbeExpiry c).chan d).counters = (s.chan d).counters := by
  unfold State.takeProbeExpiry
  split
  · exact State.modChan_counters _ c d fun ch => rfl
  · rfl

@[simp] theorem State.takeRefresh_counters : (s.takeRefresh.chan d).counters = (s.chan d).counters := by
  unfold State.takeRefresh
  split
  · unfold State.refreshMarks
    rw [State.chan_mapChans]
    split <;> rfl
  · rfl

@[simp] theorem State.mapTest_chan : s.mapTest.chan d = s.chan d := by
  rw [State.mapTest_frame]
  rfl

@[simp] theorem State.takeDue_counters : (s.takeDue.chan d).counters = (s.chan d).counters := by
  unfold State.takeDue
  dsimp only
  rw [foldl_keeps State.takeDrain (fun t => (t.chan d).counters) (fun t e => t.takeDrain_counters e d),
    State.takeRefresh_counters,
    foldl_keeps State.takeProbeExpiry (fun t => (t.chan d).counters) (fun t e => t.takeProbeExpiry_counters e d),
    foldl_keeps State.takeAnswerExpiry (fun t => (t.chan d).counters) (fun t e => t.takeAnswerExpiry_counters e d),
    State.mapTest_chan]

@[simp] theorem State.closeCredit_counters : ((s.closeCredit c).chan d).counters = (s.chan d).counters := by
  have hmove : ((s.modChan c fun ch => ch.dropComposing.moveTo .drain).chan d).counters = (s.chan d).counters :=
    State.modChan_counters _ c d fun ch => by simp
  unfold State.closeCredit
  dsimp only
  split
  · rw [State.completeDrain_counters, hmove]
  · exact hmove

@[simp] theorem State.closeStream_counters : ((s.closeStream c).chan d).counters = (s.chan d).counters := by
  have hmove : ((s.modChan c fun ch =>
      Channel.moveTo (if ch.tx.openMessage then { ch with tx := ch.tx.endOpenMessage } else ch) .drain).chan
        d).counters = (s.chan d).counters :=
    State.modChan_counters _ c d fun ch => by
      rw [Channel.moveTo_counters]
      split <;> rfl
  unfold State.closeStream
  dsimp only
  split
  · rw [State.completeDrain_counters, hmove]
  · exact hmove

@[simp] theorem State.resetConnected_counters : ((s.resetConnected c).chan d).counters = (s.chan d).counters := by
  unfold State.resetConnected
  split <;> simp

@[simp] theorem State.whenConnected_counters {f : Channel → Channel} (hf : ∀ ch, (f ch).counters = ch.counters) :
    ((s.whenConnected c f).chan d).counters = (s.chan d).counters := by
  unfold State.whenConnected
  split
  · exact State.modChan_counters s c d hf
  · rfl

/-- A matched control word keeps every channel counter. -/
theorem State.matchedWord_counters (op : Opcode) (v : BitVec 5) :
    ((s.matchedWord c op v).chan d).counters = (s.chan d).counters := by
  cases op
  case open_ => unfold State.matchedWord State.matchedOpen; dsimp only; split <;> simp
  case openAck => unfold State.matchedWord State.matchedOpenAck; dsimp only; split <;> simp
  case close =>
    unfold State.matchedWord State.matchedClose
    dsimp only
    split
    · split
      · simp
      · exact State.modChan_counters _ c d fun ch => by simp
    · exact State.modChan_counters _ c d fun ch => by simp
    all_goals simp
  case closeAck => unfold State.matchedWord State.matchedCloseAck; dsimp only; split <;> simp
  case reset => unfold State.matchedWord State.matchedReset; dsimp only; split <;> simp
  case probe => exact s.whenConnected_counters c d Channel.setMarks_counters
  case wordLevel => exact s.whenConnected_counters c d fun ch => ch.hearWordLevel_counters v
  case msgLevel => exact s.whenConnected_counters c d fun ch => ch.hearMsgLevel_counters v

/-- The report of a credit channel's word keeps every channel counter. -/
@[simp] theorem State.reportCredit_counters (clash : Bool) :
    ((s.reportCredit c clash).chan d).counters = (s.chan d).counters := by
  have hset : ∀ (t : State) (ch : Channel), t.chan d = s.chan d → ch.counters = (s.chan c).counters →
      ((t.setChan c ch).chan d).counters = (s.chan d).counters := by
    intro t ch ht hch
    rw [State.chan_setChan]
    split
    · rename_i hd
      rw [hch, hd]
    · rw [ht]
  unfold State.reportCredit
  dsimp only
  split
  · split
    · refine hset _ _ rfl ?_
      rw [Channel.dropHead_counters]
      split <;> rfl
    · refine hset _ _ rfl ?_
      split <;> rfl
  · exact hset _ _ rfl rfl

end

/-! ### Beside the highway -/

/-- From `s` to `t` the Highway Interface and the Slot Map stayed as they were, and no channel counter fell. -/
structure OffHighway (s t : State) : Prop where
  hwi : t.hwi = s.hwi
  map : t.map = s.map
  counters : ∀ c : Chan, (s.chan c).CountersLe (t.chan c)

namespace OffHighway

theorem same (s : State) : OffHighway s s := ⟨rfl, rfl, fun _ => .of_eq rfl⟩

/-- What changes none of the three stays beside the highway. -/
theorem elsewhere {s t : State} (hwi : t.hwi = s.hwi := by rfl) (map : t.map = s.map := by rfl)
    (chans : t.chans = s.chans := by rfl) : OffHighway s t :=
  ⟨hwi, map, fun c => .of_eq (by rw [State.chan, State.chan, chans])⟩

/-- An operation on one channel stays beside the highway when it keeps the counters. -/
theorem of_touches {c : Chan} {s t : State} (h : TouchesOnly c s t)
    (hc : (t.chan c).counters = (s.chan c).counters) : OffHighway s t := by
  refine ⟨h.hwi, h.map, fun d => ?_⟩
  by_cases hd : d = c
  · exact hd ▸ .of_eq hc
  · exact .of_eq (by rw [h.chan d hd])

theorem modChan {s t : State} (h : OffHighway s t) (c : Chan) {f : Channel → Channel}
    (hf : ∀ ch, (f ch).counters = ch.counters := by simp) : OffHighway s (t.modChan c f) :=
  ⟨h.hwi, h.map, fun d => (h.counters d).trans (.of_eq (t.modChan_counters c d hf))⟩

theorem finish {s t : State} (h : OffHighway s t) : Ensures (finish t) (OffHighway s) :=
  .next ⟨h.hwi, h.map, h.counters⟩

theorem finishDevice {s t : State} (h : OffHighway s t) (r : CmdResult) :
    Ensures (finishDevice t r) (OffHighway s) := .next ⟨h.hwi, h.map, h.counters⟩

theorem finishChannel {s t : State} (h : OffHighway s t) (r : CmdResult) :
    Ensures (finishChannel t r) (OffHighway s) := .next ⟨h.hwi, h.map, h.counters⟩

end OffHighway

open OffHighway (same of_touches elsewhere)

/-! ### Channel commands -/

section
variable (s : State)

theorem execChanOpen_offHighway : Ensures (execChanOpen s) (OffHighway s) := by
  have hrefuse := fun r => (same s).finishChannel r
  have hstart := (of_touches (.startOpening s.host.selected s) (s.startOpening_counters _ _)).finishChannel .done
  have henter := (of_touches (.enterOpen s.host.selected s) (s.enterOpen_counters _ _)).finishChannel .done
  refine .live (same s) fun _ => ?_
  dsimp only
  split
  · split_ifs
    exacts [hrefuse _, hrefuse _, hstart]
  · split_ifs
    exacts [hrefuse _, hrefuse _, henter]
  · split_ifs
    exacts [hrefuse _, hstart]
  · exact hrefuse _

theorem execChanListen_offHighway : Ensures (execChanListen s) (OffHighway s) := by
  have hrefuse := fun r => (same s).finishChannel r
  refine .live (same s) fun _ => ?_
  dsimp only
  split_ifs
  · exact hrefuse _
  · exact hrefuse _
  · exact hrefuse _
  · exact ((same s).modChan _).finishChannel _
  · exact hrefuse _

theorem execChanClose_offHighway : Ensures (execChanClose s) (OffHighway s) := by
  refine .live (same s) fun _ => ?_
  dsimp only
  split
  · split
    · exact (of_touches (.closeCredit _ s) (s.closeCredit_counters _ _)).finishChannel _
    · exact (of_touches (.closeStream _ s) (s.closeStream_counters _ _)).finishChannel _
  · exact (of_touches (.closeUnopened _ s) (s.closeUnopened_counters _ _)).finishChannel _
  · exact (of_touches (.closeUnopened _ s) (s.closeUnopened_counters _ _)).finishChannel _
  all_goals exact (same s).finishChannel _

theorem execChanReset_offHighway : Ensures (execChanReset s) (OffHighway s) := by
  have hconnected := (of_touches (.resetConnected s.host.selected s) (s.resetConnected_counters _ _)).finishChannel .done
  refine .live (same s) fun _ => ?_
  dsimp only
  split
  · exact (of_touches ((TouchesOnly.queueRequest _ s _).trans (.closeUnconnected _ _ _))
      (by simp)).finishChannel _
  · exact (of_touches (.closeUnconnected _ s _) (s.closeUnconnected_counters _ _ _)).finishChannel _
  · exact hconnected
  · exact hconnected
  · exact hconnected
  · exact hconnected
  all_goals exact (same s).finishChannel _

theorem execChanFlush_offHighway : Ensures (execChanFlush s) (OffHighway s) := by
  refine .live (same s) fun _ => ?_
  dsimp only
  split_ifs
  · exact ((same s).modChan _).finishChannel _
  · exact (same s).finishChannel _

theorem execChanPost_offHighway : Ensures (execChanPost s) (OffHighway s) := by
  have hrefuse := fun r => (same s).finishChannel r
  refine .live (same s) fun _ => ?_
  split
  · unfold State.postCredit
    dsimp only
    split_ifs
    · exact hrefuse _
    · exact hrefuse _
    · exact hrefuse _
    · exact hrefuse _
    · exact ((elsewhere).modChan _).finishChannel _
    · exact hrefuse _
  · unfold State.postStream
    dsimp only
    split_ifs
    · exact ((same s).modChan _).finishChannel _
    · exact hrefuse _
    · exact hrefuse _

theorem execChanAbandon_offHighway : Ensures (execChanAbandon s) (OffHighway s) := by
  have hrefuse := fun r => (same s).finishChannel r
  refine .live (same s) fun _ => ?_
  split
  · unfold State.abandonCredit
    split_ifs
    · exact ((same s).modChan _).finishChannel _
    · exact hrefuse _
  · unfold State.abandonStream
    dsimp only
    split_ifs
    · exact ((same s).modChan _).finishChannel _
    · exact hrefuse _
    · exact hrefuse _

theorem execChanRelease_offHighway : Ensures (execChanRelease s) (OffHighway s) := by
  refine .live (same s) fun _ => ?_
  split
  · exact (same s).finishChannel _
  · split_ifs
    · exact ((same s).modChan _).finishChannel _
    · exact (same s).finishChannel _

theorem execCdataWrite_offHighway (w : Word) : Ensures (execCdataWrite w s) (OffHighway s) := by
  refine .live (same s) fun _ => ?_
  dsimp only
  split_ifs
  · exact ((elsewhere).modChan _).finish
  · exact .fault _
  · exact ((same s).modChan _).finish

theorem execCdataRead_offHighway : Ensures (execCdataRead s) (OffHighway s) := by
  have hreturn : ∀ w, OffHighway s (s.returns w) := fun _ => elsewhere
  have hnothing : Ensures (finish (s.readNothing s.host.selected)) (OffHighway s) :=
    ((hreturn 0).modChan _).finish
  refine .live (same s) fun _ => ?_
  dsimp only
  split
  · exact hnothing
  · split_ifs
    · exact ((hreturn _).modChan _).finish
    · exact .fault _
    · exact hnothing

/-! ### Device commands and register writes -/

theorem execPopcq_offHighway : Ensures (execPopcq s) (OffHighway s) := by
  refine .live (same s) fun _ => ?_
  split
  · exact (same s).finishDevice _
  · exact (elsewhere).finishDevice _

theorem execUnknownCommandCode_offHighway (port : CmdPort) (w : Word) :
    Ensures (execUnknownCommandCode port w s) (OffHighway s) := by
  refine .live (same s) fun _ => ?_
  split
  · exact .next (same s)
  · cases port
    · exact (same s).finishDevice _
    · exact (same s).finishChannel _

theorem execDevpendWrite_offHighway (w : Word) : Ensures (execDevpendWrite w s) (OffHighway s) :=
  .live (same s) fun _ => (elsewhere).finish

theorem execDevenWrite_offHighway (w : Word) : Ensures (execDevenWrite w s) (OffHighway s) :=
  .live (same s) fun _ => (elsewhere).finish

theorem execCeventWrite_offHighway (w : Word) : Ensures (execCeventWrite w s) (OffHighway s) :=
  .live (same s) fun _ => ((same s).modChan _).finish

theorem execTimingWrite_offHighway (w : Word) : Ensures (execTimingWrite w s) (OffHighway s) := by
  refine .live (same s) fun _ => ?_
  split_ifs
  · exact (same s).finishDevice _
  · exact (elsewhere).finish

theorem execTiming2Write_offHighway (w : Word) : Ensures (execTiming2Write w s) (OffHighway s) := by
  refine .live (same s) fun _ => ?_
  split_ifs
  · exact (same s).finishDevice _
  · exact OffHighway.finish (s := s) ⟨rfl, rfl, fun c => .of_eq (by rw [State.chan_mapChans]; rfl)⟩

theorem execCqthrWrite_offHighway (w : Word) : Ensures (execCqthrWrite w s) (OffHighway s) := by
  refine .live (same s) fun _ => ?_
  dsimp only
  split_ifs
  · exact (elsewhere).finish
  · exact (same s).finishDevice _

theorem execTselWrite_offHighway (w : Word) : Ensures (execTselWrite w s) (OffHighway s) := by
  refine .live (same s) fun _ => ?_
  split
  · exact (elsewhere).finish
  · exact (same s).finishDevice _

theorem execRegisterWrite_offHighway (r : PlainReg) (w : Word) : Ensures (execRegisterWrite r w s) (OffHighway s) := by
  refine .live (same s) fun _ => ?_
  cases r
  case darg => exact (elsewhere).finish
  case ctag => exact ((same s).modChan _).finish
  case chsel => exact (elsewhere).finish
  all_goals exact (same s).finish

/-! ### Table accesses -/

/-- An access to TDATA has a property that its action gives after the advance and that an idle access keeps. -/
theorem tableAccess_ensures {P : State → Prop} {act : State} {tables : List Nat} (h0 : P s)
    (h : s.resetPin = false → s.host.table ∈ tables → P act.advanceIndex.evaluate) :
    Ensures (tableAccess s tables act) P := by
  intro t ht
  rcases tableAccess_next ht with rfl | ⟨hlive, htable, rfl⟩
  · exact h0
  · exact h hlive htable

theorem OffHighway.tableAccess {act : State} {tables : List Nat} (h : OffHighway s act) :
    Ensures (tableAccess s tables act) (OffHighway s) :=
  tableAccess_ensures s (same s) fun _ _ => ⟨h.hwi, h.map, h.counters⟩

theorem execRegionTableWrite_offHighway (w : Word) : Ensures (execRegionTableWrite w s) (OffHighway s) := by
  refine OffHighway.tableAccess s ?_
  unfold State.writeRegion
  dsimp only
  split
  · exact elsewhere
  · split
    · refine (same s).modChan _ fun ch => ?_
      split <;> rfl
    · exact elsewhere

theorem execConfigWordWrite_offHighway (w : Word) : Ensures (execConfigWordWrite w s) (OffHighway s) := by
  refine OffHighway.tableAccess s ?_
  unfold State.writeConfig
  dsimp only
  split
  · exact elsewhere
  · split
    · exact elsewhere
    · exact (same s).modChan _

theorem execTableRead_offHighway : Ensures (execTableRead s) (OffHighway s) :=
  OffHighway.tableAccess s elsewhere

theorem execTableWriteIgnored_offHighway (w : Word) : Ensures (execTableWriteIgnored w s) (OffHighway s) :=
  OffHighway.tableAccess s (same s)

/-! ### Steps that fall due, but for the map test -/

theorem execAnswerTimerExpiry_offHighway (c : Chan) : Ensures (execAnswerTimerExpiry c s) (OffHighway s) :=
  .live (same s) fun _ => (of_touches (.takeAnswerExpiry c s) (s.takeAnswerExpiry_counters c c)).finish

theorem execProbeTimerExpiry_offHighway (c : Chan) : Ensures (execProbeTimerExpiry c s) (OffHighway s) :=
  .live (same s) fun _ => (of_touches (.takeProbeExpiry c s) (s.takeProbeExpiry_counters c c)).finish

theorem execRefreshTimerExpiry_offHighway : Ensures (execRefreshTimerExpiry s) (OffHighway s) := by
  have h : OffHighway s s.takeRefresh :=
    ⟨by rw [State.takeRefresh_frame], by rw [State.takeRefresh_frame], fun c => .of_eq (s.takeRefresh_counters c)⟩
  exact .live (same s) fun _ => h.finish

theorem execDrainCompletion_offHighway (c : Chan) : Ensures (execDrainCompletion c s) (OffHighway s) :=
  .live (same s) fun _ => (of_touches (.takeDrain c s) (s.takeDrain_counters c c)).finish

end

/-- The rows whose commands act beside the highway. -/
def besideHighway : Instr → Bool
  | .popcq | .unknownCommandCode _ _ => true
  | .chanOpen | .chanListen | .chanClose | .chanReset | .chanFlush | .chanPost | .chanAbandon | .chanRelease => true
  | .cdataWrite _ | .cdataRead => true
  | .devpendWrite _ | .devenWrite _ | .ceventWrite _ | .timingWrite _ | .timing2Write _ | .cqthrWrite _
  | .tselWrite _ | .registerWrite _ _ => true
  | .regionTableWrite _ | .configWordWrite _ | .tableRead | .tableWriteIgnored _ => true
  | .answerTimerExpiry _ | .probeTimerExpiry _ | .refreshTimerExpiry | .drainCompletion _ => true
  | _ => false

/-- A command of these rows leaves the Highway Interface and the Slot Map as they are. -/
theorem exec_offHighway {i : Instr} (s : State) (h : besideHighway i = true) :
    Ensures (exec i s) (OffHighway s) := by
  cases i
  case popcq => exact execPopcq_offHighway s
  case unknownCommandCode port w => exact execUnknownCommandCode_offHighway s port w
  case chanOpen => exact execChanOpen_offHighway s
  case chanListen => exact execChanListen_offHighway s
  case chanClose => exact execChanClose_offHighway s
  case chanReset => exact execChanReset_offHighway s
  case chanFlush => exact execChanFlush_offHighway s
  case chanPost => exact execChanPost_offHighway s
  case chanAbandon => exact execChanAbandon_offHighway s
  case chanRelease => exact execChanRelease_offHighway s
  case cdataWrite w => exact execCdataWrite_offHighway s w
  case cdataRead => exact execCdataRead_offHighway s
  case devpendWrite w => exact execDevpendWrite_offHighway s w
  case devenWrite w => exact execDevenWrite_offHighway s w
  case ceventWrite w => exact execCeventWrite_offHighway s w
  case timingWrite w => exact execTimingWrite_offHighway s w
  case timing2Write w => exact execTiming2Write_offHighway s w
  case cqthrWrite w => exact execCqthrWrite_offHighway s w
  case tselWrite w => exact execTselWrite_offHighway s w
  case registerWrite r w => exact execRegisterWrite_offHighway s r w
  case regionTableWrite w => exact execRegionTableWrite_offHighway s w
  case configWordWrite w => exact execConfigWordWrite_offHighway s w
  case tableRead => exact execTableRead_offHighway s
  case tableWriteIgnored w => exact execTableWriteIgnored_offHighway s w
  case answerTimerExpiry c => exact execAnswerTimerExpiry_offHighway s c
  case probeTimerExpiry c => exact execProbeTimerExpiry_offHighway s c
  case refreshTimerExpiry => exact execRefreshTimerExpiry_offHighway s
  case drainCompletion c => exact execDrainCompletion_offHighway s c
  all_goals cases h

end Sys2Proof.Machine
end

section
/-! SUPPORT. What the slot and frame operations leave of the Highway Interface and the Slot Map (01 R4 to R9, R16). -/

namespace Sys2Proof.Machine

-- One theorem after another, as in the tests: many at once ask for more threads than there are.
set_option Elab.async false

/-! ### Positions and slots (01 R4) -/

/-- The slots begun are over: the frame start was given and no word is on the line. -/
theorem Highway.betweenSlots_iff (h : Highway) :
    h.betweenSlots = true ↔ h.line = none ∧ ∃ last, h.position = .served last := by
  cases hp : h.position <;> simp [Highway.betweenSlots, hp]

/-- A slot can begin: frames run, no word is on the line, and the slot is a later one of the frame. -/
theorem State.slotReady_iff (s : State) (n : Slot) :
    s.slotReady n = true ↔
      s.hwi.running = true ∧ s.hwi.line = none ∧
        ∃ last, s.hwi.position = .served last ∧ last < n.val ∧ n.val < s.slots := by
  cases hp : s.hwi.position <;> simp [State.slotReady, hp, and_assoc]

theorem Highway.running_iff (h : Highway) : h.running = true ↔ h.sync = .locked ∨ h.sync = .holdover := by
  simp [Highway.running]

theorem Highway.followerRuns_iff (h : Highway) :
    h.followerRuns = true ↔ h.role = .follower ∧ (h.sync = .locked ∨ h.sync = .holdover) := by
  simp [Highway.followerRuns, Highway.running]

theorem Highway.masterRuns_iff (h : Highway) : h.masterRuns = true ↔ h.role = .master ∧ h.sync = .locked := by
  simp [Highway.masterRuns]

@[simp] theorem State.takeDue_hwi (s : State) : s.takeDue.hwi = s.hwi := s.takeDue_frame.1

@[simp] theorem State.takeDue_dueFrame (s : State) : s.takeDue.map.dueFrame = none := s.takeDue_map.2

/-! ### The frame of slot 0 (01 R7, R8) -/

/-- The Follower's frame of slot 0 leaves the line and the sync state as they are. -/
theorem State.inFollowerFrame_hwi (t : State) : t.inFollowerFrame.hwi.line = t.hwi.line ∧
    t.inFollowerFrame.hwi.running = t.hwi.running ∧ t.inFollowerFrame.map = t.map := by
  unfold State.inFollowerFrame
  split <;> exact ⟨rfl, rfl, rfl⟩

/-- The Master's frame of slot 0 leaves the line and the sync state as they are. -/
theorem State.inMasterFrame_hwi (t : State) : t.inMasterFrame.hwi.line = t.hwi.line ∧
    t.inMasterFrame.hwi.running = t.hwi.running ∧ t.inMasterFrame.map = t.map := by
  unfold State.inMasterFrame
  split <;> exact ⟨rfl, rfl, rfl⟩

/-- The Header's check leaves the line and the sync state as they are. -/
theorem State.checkHeader_hwi (t : State) (line : SlotBits) : (t.checkHeader line).hwi.line = t.hwi.line ∧
    (t.checkHeader line).hwi.running = t.hwi.running := by
  unfold State.checkHeader
  split
  · split <;> exact ⟨rfl, rfl⟩
  · exact ⟨rfl, rfl⟩

/-! ### Operations that move nothing of the highway but its counters -/

/-- From `s` to `t` the Highway Interface changed in its counters alone and the Slot Map not at all, and no counter of
the highway or of a channel fell. `fault` says whether LineError was raised: if not, the three counters that carry it
stand as they were, and a latch that was set stays set (01 R18, 10 R156). -/
structure Counts (fault : Bool) (s t : State) : Prop where
  hwi : t.hwi = { s.hwi with counters := t.hwi.counters }
  map : t.map = s.map
  highway : ∀ k : Fin 9, s.hwi.counters[k].toNat ≤ t.hwi.counters[k].toNat
  channel : ∀ c : Chan, (s.chan c).CountersLe (t.chan c)
  spared : fault = false → ∀ k : Fin 9, k.val < 3 → t.hwi.counters[k] = s.hwi.counters[k]
  latched : fault = true → t.evu.latches.getLsbD 6 = true
  kept : s.evu.latches.getLsbD 6 = true → t.evu.latches.getLsbD 6 = true

/-- Marking a level as chosen stays beside the highway (04 R67). -/
theorem OffHighway.modMark {s t : State} (h : OffHighway s t) (p : Fin 32) (f : Mark → Mark) :
    OffHighway s (t.modMark p f) := by
  refine h.modChan _ fun ch => ?_
  split <;> rfl

namespace Counts

theorem trans {f g : Bool} {s t u : State} (h : Counts f s t) (k : Counts g t u) : Counts (f || g) s u where
  hwi := by rw [k.hwi, h.hwi]
  map := k.map.trans h.map
  highway i := (h.highway i).trans (k.highway i)
  channel c := (h.channel c).trans (k.channel c)
  spared hfg i hi := by
    obtain ⟨hf, hg⟩ := Bool.or_eq_false_iff.mp hfg
    rw [k.spared hg i hi, h.spared hf i hi]
  latched hfg := ((Bool.or_eq_true _ _).mp hfg).elim (fun hf => k.kept (h.latched hf)) k.latched
  kept hs := k.kept (h.kept hs)

theorem of_off {s t : State} (h : OffHighway s t) (he : t.evu.latches = s.evu.latches := by rfl) :
    Counts false s t where
  hwi := by rw [h.hwi]
  map := h.map
  highway k := by rw [h.hwi]
  channel := h.counters
  spared _ k _ := by rw [h.hwi]
  latched hf := by cases hf
  kept hs := by rwa [he]

theorem of_touches {c : Chan} {s t : State} (h : TouchesOnly c s t) (hc : (t.chan c).counters = (s.chan c).counters) :
    Counts false s t := of_off (.of_touches h hc) (by rw [h.evu])

theorem same (s : State) : Counts false s s := of_off (.same s)

/-- Advancing a counter that carries no LineError. -/
theorem countHw (s : State) (k : HwCounter) (hk : 3 ≤ k.index.val := by decide) : Counts false s (s.countHw k) where
  hwi := rfl
  map := rfl
  highway := toNat_le_set_advance s.hwi.counters k.index
  channel _ := .of_eq rfl
  spared _ i hi := set_advance_ne s.hwi.counters fun e => absurd (e ▸ hi) (Nat.not_lt.mpr hk)
  latched hf := by cases hf
  kept := id

/-- Advancing a counter that carries LineError raises it (01 R18). -/
theorem lineFault (s : State) (k : HwCounter) : Counts true s (s.lineFault k) where
  hwi := rfl
  map := rfl
  highway := toNat_le_set_advance s.hwi.counters k.index
  channel _ := .of_eq rfl
  spared hf := by cases hf
  latched _ := by simp [State.lineFault, DevEvent.position]
  kept _ := by simp [State.lineFault, DevEvent.position]

theorem screen (s : State) (w : Received) : Counts (w == .checkError) s (s.screen w) := by
  unfold State.screen
  split
  · exact lineFault s _
  · exact countHw s _
  · exact same s

theorem setChan (s : State) (c : Chan) {ch : Channel} (h : (s.chan c).CountersLe ch) :
    Counts false s (s.setChan c ch) := by
  refine of_off ⟨rfl, rfl, fun d => ?_⟩
  rw [State.chan_setChan]
  split
  · rename_i hd
    exact hd ▸ h
  · exact .of_eq rfl

theorem modChan (s : State) (c : Chan) {f : Channel → Channel}
    (hf : ∀ ch, (f ch).counters = ch.counters := by simp) : Counts false s (s.modChan c f) :=
  setChan s c (.of_eq (hf _))

theorem takeData (s : State) (c : Chan) (k : Kind) (p : Word) : Counts false s (s.takeData c k p) := by
  have hset := setChan s c ((s.chan c).countersLe_dataWord s.hwi.frame k)
  unfold State.takeData
  dsimp only
  split
  · exact hset.trans (of_off .elsewhere)
  · exact hset

theorem receiveData (s : State) (c : Chan) (w : Received) : Counts false s (s.receiveData c w) := by
  have hdata : ∀ k p, Counts false s (if (s.chan c).receiving then s.takeData c k p else s.countHw .strays) := by
    intro k p
    split
    · exact takeData s c k p
    · exact countHw s _
  unfold State.receiveData
  split
  · split
    · exact modChan s c
    · exact same s
  · exact same s
  · exact same s
  · exact same s
  · exact countHw s _
  all_goals exact hdata _ _

theorem takeControl (s : State) (source : Address) (w : Word) : Counts false s (s.takeControl source w) := by
  unfold State.takeControl
  dsimp only
  split_ifs
  · exact same s
  · exact countHw s _
  · exact of_touches (.matchedWord _ s _ _) (s.matchedWord_counters _ _ _ _)
  · unfold State.unmatchedWord
    dsimp only
    split
    · exact (countHw s _).trans (of_touches (.queueResponse (chanOfField (ctlChannel w)) _ _ _ _ _) (by simp))
    · exact countHw s _

theorem receiveControl (s : State) (source : Address) (w : Received) : Counts false s (s.receiveControl source w) := by
  unfold State.receiveControl
  split
  · exact same s
  · exact same s
  · exact same s
  · exact takeControl s _ _
  all_goals exact countHw s _

theorem disposeUnused (s : State) (w : Received) : Counts false s (s.disposeUnused w) := by
  unfold State.disposeUnused
  split
  case h_2 | h_3 | h_4 | h_5 | h_6 => exact countHw s _
  all_goals exact same s

theorem reportCredit (s : State) (c : Chan) (clash : Bool) : Counts false s (s.reportCredit c clash) :=
  of_touches (.reportCredit c s clash) (s.reportCredit_counters c c clash)

theorem settleControl (s : State) (clash : Bool) : Counts false s (s.settleControl clash) :=
  of_off ⟨rfl, rfl, fun c => .of_eq (by unfold State.settleControl; rw [State.chan_mapChans]; rfl)⟩

theorem arbitrate (s : State) : Counts false s s.arbitrate.2 := by
  unfold State.arbitrate
  split
  · exact of_off .elsewhere
  · split
    · rename_i p _
      have hmark := OffHighway.modMark (s := s) (t := { s with lnk := { s.lnk with lastPosition := p } }) .elsewhere p
        fun m => { m with chosen := true }
      exact of_off hmark
    · exact same s

/-- The end of a slot takes its word from the line, and a clash is a fault of the line (01 R5). -/
theorem endLine (s : State) (clash : Bool) :
    Counts clash { s with hwi := { s.hwi with line := none } } (s.endLine clash) := by
  unfold State.endLine
  dsimp only
  cases clash
  · exact same _
  · exact lineFault _ _

end Counts

end Sys2Proof.Machine
end

section
/-! SUPPORT. The words on the line stand in the slots of their owners, at every step (01 R4, R9, 02 R29, R31). -/

namespace Sys2Proof.Machine

-- One theorem after another, as in the tests: many at once ask for more threads than there are.
set_option Elab.async false

namespace LineInService

/-! ### What the invariant gives and what gives it -/

/-- It speaks of the Highway Interface without its counters, and of the Slot Map. -/
theorem of_counts {f : Bool} {s t : State} (h : LineInService s) (k : Counts f s t) : LineInService t := by
  unfold LineInService State.entryOf State.slots at *
  rw [k.hwi, k.map]
  exact h

theorem of_off {s t : State} (h : LineInService s) (k : OffHighway s t) : LineInService t := by
  unfold LineInService State.entryOf State.slots at *
  rw [k.hwi, k.map]
  exact h

/-- It speaks of no word while none is on the line. -/
theorem of_idle {s : State} (hline : s.hwi.line = none)
    (hdue : s.map.dueFrame ≠ none → s.map.target ≠ none ∧ s.hwi.running = true) : LineInService s := by
  refine ⟨fun l hl => ?_, hdue⟩
  rw [hline] at hl
  cases hl

/-- With no word on the line and no test due there is nothing to hold. -/
theorem of_still {s : State} (hline : s.hwi.line = none) (hdue : s.map.dueFrame = none) : LineInService s :=
  of_idle hline fun h => absurd hdue h

theorem line_none_of_not_running {s : State} (h : LineInService s) (hr : s.hwi.running = false) :
    s.hwi.line = none := by
  cases hl : s.hwi.line with
  | none => rfl
  | some l =>
    obtain ⟨hrun, -⟩ := h.1 l hl
    rw [hr] at hrun
    cases hrun

theorem due_none_of_not_running {s : State} (h : LineInService s) (hr : s.hwi.running = false) :
    s.map.dueFrame = none := by
  by_contra hd
  obtain ⟨-, hrun⟩ := h.2 hd
  rw [hr] at hrun
  cases hrun

theorem line_none_of_header {s : State} (h : LineInService s) (hp : s.hwi.position = .header) : s.hwi.line = none := by
  cases hl : s.hwi.line with
  | none => rfl
  | some l =>
    obtain ⟨-, -, n, -, -, hn, -⟩ := h.1 l hl
    rw [hp] at hn
    cases hn

theorem line_none_of_due {s : State} (h : LineInService s) (hd : s.map.dueFrame ≠ none) : s.hwi.line = none := by
  cases hl : s.hwi.line with
  | none => rfl
  | some l =>
    obtain ⟨-, hnone, -⟩ := h.1 l hl
    exact absurd hnone hd

/-! ### The steps that fall due -/

theorem mapTest {s : State} (h : LineInService s) : LineInService s.mapTest := by
  by_cases hd : s.map.dueFrame = none
  · rwa [State.mapTest_of_not_due s hd]
  · refine of_still ?_ s.mapTest_dueFrame
    rw [State.mapTest_frame]
    exact h.line_none_of_due hd

theorem takeDue {s : State} (h : LineInService s) : LineInService s.takeDue := by
  have hm : LineInService s.takeDue ↔ LineInService s.mapTest := by
    unfold LineInService State.entryOf State.slots
    rw [s.takeDue_map.1, s.takeDue_hwi, s.mapTest_frame]
  exact hm.mpr h.mapTest

/-! ### Frames and slots -/

/-- A loss takes the word from the line and leaves no test due that was not due before. -/
theorem loseHighway {s : State} (hdue : s.map.dueFrame = none) (dest : Sync) (pulse : Option Nat) :
    LineInService (s.loseHighway dest pulse) := of_still rfl hdue

/-- The frame start makes a test due only for a pending switch. -/
theorem frameStart {s : State} (hline : s.hwi.line = none) (hrun : s.hwi.running = true) :
    LineInService s.frameStart := by
  refine of_idle hline fun hd => ⟨fun ht => hd ?_, hrun⟩
  have htarget : s.map.target = none := ht
  simp [State.frameStart, htarget]

/-- A slot begins without a word. -/
theorem enterSlot {s : State} (n : Slot) (hline : s.hwi.line = none) (hdue : s.map.dueFrame = none) :
    LineInService (s.enterSlot n) := of_still hline hdue

/-- A word is driven in a slot of its owner. -/
theorem drive {s : State} {n : Slot} (hready : s.slotReady n = true) (hdue : s.map.dueFrame = none) (bits : SlotBits)
    {owner : LineOwner} (hown : s.entryOf n = owner.use) : LineInService (s.drive n bits owner) := by
  obtain ⟨hrun, -, last, -, hlast, hn⟩ := (s.slotReady_iff n).mp hready
  refine ⟨fun l hl => ?_, fun hd => absurd hdue hd⟩
  have hl' : (⟨bits, owner⟩ : LineWord) = l := Option.some.inj hl
  subst hl'
  exact ⟨hrun, hdue, n, Nat.lt_of_le_of_lt (Nat.zero_le _) hlast, hn, rfl, hown⟩

/-- A command that ends in a state of the invariant keeps it: the evaluation is no part of it (10 R158). -/
theorem finish {s : State} (h : LineInService s) : Ensures (finish s) LineInService := .next h

theorem finishDevice {s : State} (h : LineInService s) (r : CmdResult) : Ensures (finishDevice s r) LineInService :=
  .next h

/-- A word received in a slot that can begin leaves the line without a word of the part. -/
theorem of_received {f : Bool} {s t : State} {n : Slot} (hready : s.takeDue.slotReady n = true)
    (hk : Counts f (s.takeDue.enterSlot n) t) : Ensures (Machine.finish t) LineInService := by
  obtain ⟨-, hline, -⟩ := (s.takeDue.slotReady_iff n).mp hready
  exact ((LineInService.enterSlot n hline s.takeDue_dueFrame).of_counts hk).finish

end LineInService

/-! ### Device commands and register writes -/

section
variable {s : State} (h : LineInService s)
include h

theorem execStart_inService : Ensures (execStart s) LineInService := by
  refine .live h fun _ => ?_
  split
  · rename_i hoff
    have hr : s.hwi.running = false := by simp [Highway.running, hoff]
    have hmap : (s.map.startWith s.slots).dueFrame = s.map.dueFrame := by
      unfold SlotMap.startWith SlotMap.setBank
      cases s.map.active <;> dsimp only [BankName.other] <;> split_ifs <;> rfl
    refine .next (LineInService.of_still ?_ ?_)
    · unfold State.startHighway
      cases s.hwi.role <;> exact h.line_none_of_not_running hr
    · unfold State.startHighway
      cases s.hwi.role <;> exact hmap.trans (h.due_none_of_not_running hr)
  all_goals exact .next (h.of_off .elsewhere)

theorem execStop_inService : Ensures (execStop s) LineInService := by
  refine .live h fun _ => ?_
  split
  · exact .next (h.of_off .elsewhere)
  · rename_i hacq
    have hr : s.hwi.running = false := by simp [Highway.running, hacq]
    exact .next (.of_still (h.line_none_of_not_running hr) (h.due_none_of_not_running hr))
  all_goals exact (LineInService.loseHighway s.takeDue_dueFrame .off none).finishDevice _

theorem execSwitch_inService : Ensures (execSwitch s) LineInService := by
  refine .live h fun _ => ?_
  split_ifs with htarget _ hoff
  · exact .next (h.of_off .elsewhere)
  · exact .next (h.of_off .elsewhere)
  · have hr : s.hwi.running = false := by simp [Highway.running, hoff]
    have hswap : s.map.swap.dueFrame = s.map.dueFrame := by
      unfold SlotMap.swap SlotMap.setBank
      cases s.map.active <;> rfl
    exact .next (.of_still (h.line_none_of_not_running hr) (hswap.trans (h.due_none_of_not_running hr)))
  · obtain ⟨hline, hdue⟩ := h
    exact .next ⟨hline, fun hd => ⟨by simp, (hdue hd).2⟩⟩

theorem execCancel_inService : Ensures (execCancel s) LineInService := by
  refine .live h fun _ => ?_
  split_ifs
  · refine .next ⟨fun l hl => ?_, fun hd => absurd rfl hd⟩
    obtain ⟨hrun, -, n, hn⟩ := h.1 l hl
    exact ⟨hrun, rfl, n, hn⟩
  · exact .next (h.of_off .elsewhere)

theorem execSoftreset_inService : Ensures (execSoftreset s) LineInService :=
  .live h fun _ => .next (.of_still rfl rfl)

theorem execResetPin_inService (asserted : Bool) :
    Ensures (execResetPin asserted s) LineInService := by
  cases asserted
  · exact .next h
  · exact .next (.of_still rfl rfl)

theorem execHcfgWrite_inService (w : Word) : Ensures (execHcfgWrite w s) LineInService := by
  refine .live h fun _ => ?_
  split
  · rename_i hoff
    have hr : s.hwi.running = false := by simp [Highway.running, hoff]
    exact .next (.of_still (h.line_none_of_not_running hr) (h.due_none_of_not_running hr))
  · exact h.finishDevice _

theorem execHdivWrite_inService (w : Word) : Ensures (execHdivWrite w s) LineInService := by
  refine .live h fun _ => ?_
  split_ifs
  · exact .next h
  · exact .next (h.of_off .elsewhere)

theorem execPendingBankWrite_inService (w : Word) : Ensures (execPendingBankWrite w s) LineInService := by
  refine tableAccess_ensures s h fun _ _ => ?_
  unfold State.writePending
  split
  · exact h.of_off .elsewhere
  · split
    · -- The write goes to the other bank; the active one serves the slots.
      have hbank : ∀ v, (s.map.setBank s.map.active.other v).activeBank = s.map.activeBank := by
        intro v
        unfold SlotMap.activeBank SlotMap.setBank SlotMap.bank
        cases s.map.active <;> rfl
      have hrest : ∀ v, (s.map.setBank s.map.active.other v).dueFrame = s.map.dueFrame ∧
          (s.map.setBank s.map.active.other v).target = s.map.target := by
        intro v
        unfold SlotMap.setBank
        cases s.map.active <;> exact ⟨rfl, rfl⟩
      unfold LineInService State.entryOf at *
      simp only [State.evaluate_hwi, State.evaluate_map, State.advanceIndex, hbank, (hrest _).1, (hrest _).2]
      exact h
    · exact h.of_off .elsewhere

theorem execChannelCounterRead_inService : Ensures (execChannelCounterRead s) LineInService :=
  tableAccess_ensures s h fun _ _ => h

theorem execHighwayCounterRead_inService : Ensures (execHighwayCounterRead s) LineInService :=
  tableAccess_ensures s h fun _ _ => h

/-! ### Synchronisation and frames -/

theorem execAcquirePulse_inService (clock : Nat) : Ensures (execAcquirePulse clock s) LineInService := by
  refine .live h fun _ => ?_
  split_ifs with hacq
  · exact .next h
  · exact .next h
  · exact .next h
  · exact .next h

theorem execCandidateHeader_inService (line : SlotBits) : Ensures (execCandidateHeader line s) LineInService := by
  refine .live h fun _ => ?_
  split_ifs with hacq
  · have hhwi := s.takeDue_hwi
    have hdue := s.takeDue_dueFrame
    generalize s.takeDue = t at hhwi hdue ⊢
    have hr : s.hwi.running = false := by simp [Highway.running, hacq.1]
    have hline : t.hwi.line = none := hhwi ▸ h.line_none_of_not_running hr
    dsimp only
    split
    · exact .next (.frameStart (s := State.raise { t with hwi := _ } _) hline rfl)
    · exact .next (.of_still hline hdue)
  · exact .next h

theorem execSyncMiss_inService : Ensures (execSyncMiss s) LineInService := by
  refine .live h fun _ => ?_
  split_ifs with hmiss
  · have hhwi := s.takeDue_hwi
    have hdue := s.takeDue_dueFrame
    generalize s.takeDue = t at hhwi hdue ⊢
    have hline : t.hwi.line = none := hhwi ▸ (s.hwi.betweenSlots_iff.mp hmiss.2.2).1
    exact .next (.of_still hline hdue)
  · exact .next h

theorem execHoldoverMiss_inService : Ensures (execHoldoverMiss s) LineInService := by
  refine .live h fun _ => ?_
  split_ifs
  · have hdue := s.takeDue_dueFrame
    generalize s.takeDue = t at hdue ⊢
    exact .next (.of_still rfl hdue)
  · exact .next h

theorem execMisplacedPulse_inService (bit : Nat) : Ensures (execMisplacedPulse bit s) LineInService := by
  have hdue := s.takeDue_dueFrame
  have ht := h.takeDue
  refine .live h fun _ => ?_
  dsimp only
  generalize s.takeDue = t at hdue ht ⊢
  split_ifs
  · exact .next (.of_still rfl hdue)
  · exact .next ht
  · exact .next h
  · exact .next h

theorem execPulseAtExpectedBit_inService : Ensures (execPulseAtExpectedBit s) LineInService := by
  have hhwi := s.takeDue_hwi
  have hdue := s.takeDue_dueFrame
  have ht := h.takeDue
  refine .live h fun _ => ?_
  dsimp only
  generalize s.takeDue = t at hhwi hdue ht ⊢
  split_ifs with hready
  · have hline : t.hwi.line = none := hhwi ▸ (s.hwi.betweenSlots_iff.mp hready.2).1
    exact .next (.of_still hline hdue)
  · exact .next ht
  · exact .next h
  · exact .next h

/-- Slot 0 can end, or the next frame begin, only with no word on the line. -/
theorem LineInService.line_none_of_header_or_between (hp : s.hwi.position = .header ∨ s.hwi.betweenSlots = true) :
    s.hwi.line = none := by
  rcases hp with hp | hp
  · exact h.line_none_of_header hp
  · exact (s.hwi.betweenSlots_iff.mp hp).1

theorem execFollowerHeaderSlot_inService (line : SlotBits) : Ensures (execFollowerHeaderSlot line s) LineInService := by
  refine .live h fun _ => ?_
  split_ifs with hready
  · simp only [Highway.followerHeaderReady, Bool.and_eq_true, Bool.or_eq_true, beq_iff_eq] at hready
    obtain ⟨hruns, hpos⟩ := hready
    have hline : s.hwi.line = none := h.line_none_of_header_or_between (hpos.imp_right fun hb => hb.1.2)
    have hrun : s.hwi.running = true := (Highway.running_iff _).mpr (s.hwi.followerRuns_iff.mp hruns).2
    have hhwi := s.takeDue_hwi
    generalize s.takeDue = t at hhwi ⊢
    obtain ⟨hl, hr, -⟩ := t.inFollowerFrame_hwi
    obtain ⟨hl', hr'⟩ := t.inFollowerFrame.checkHeader_hwi line
    refine (LineInService.frameStart ?_ ?_).finish
    · rw [hl', hl, hhwi, hline]
    · rw [hr', hr, hhwi, hrun]
  · exact .next h

theorem execMasterHeaderSlot_inService (line : SlotBits) : Ensures (execMasterHeaderSlot line s) LineInService := by
  refine .live h fun _ => ?_
  split_ifs with hready
  · have hline : s.hwi.line = none := h.line_none_of_header_or_between hready.2
    have hrun : s.hwi.running = true := (Highway.running_iff _).mpr (.inl (s.hwi.masterRuns_iff.mp hready.1).2)
    have hhwi := s.takeDue_hwi
    have hdue := s.takeDue_dueFrame
    generalize s.takeDue = t at hhwi hdue ⊢
    obtain ⟨hl, hr, hm⟩ := t.inMasterFrame_hwi
    dsimp only
    split_ifs
    · exact .next (.of_still rfl ((congrArg SlotMap.dueFrame hm).trans hdue))
    · exact (LineInService.frameStart (by rw [hl, hhwi, hline]) (by rw [hr, hhwi, hrun])).finish
  · exact .next h

theorem execMapSwitch_inService : Ensures (execMapSwitch s) LineInService := .live h fun _ => .next h.mapTest

/-! ### Slots -/

theorem execTxdataOffer_inService (n : Slot) : Ensures (execTxdataOffer n s) LineInService := by
  have hdue := s.takeDue_dueFrame
  refine .live h fun _ => ?_
  generalize s.takeDue = t at hdue ⊢
  dsimp only
  split
  · rename_i c hready huse
    split
    · rename_i a ha
      obtain ⟨-, howner⟩ := Channel.offer_serves _ c ha
      have hdrive : ∀ bits, LineInService ((t.setChan c a.after).drive n bits a.owner) := fun bits =>
        .drive (s := t.setChan c a.after) hready hdue bits (huse.trans howner.symm)
      unfold State.driveAnswer
      split
      · exact (hdrive _).finish
      · split_ifs
        · exact (hdrive _).finish
        · exact .fault _
    · exact (LineInService.enterSlot n ((t.slotReady_iff n).mp hready).2.1 hdue).finish
  · exact .next h

theorem execTxcontrolOffer_inService (n : Slot) : Ensures (execTxcontrolOffer n s) LineInService := by
  have hdue := s.takeDue_dueFrame
  refine .live h fun _ => ?_
  generalize s.takeDue = t at hdue ⊢
  dsimp only
  split
  · rename_i hready huse
    have hk := Counts.arbitrate t
    split
    · rename_i payload t1 ht1
      rw [ht1] at hk
      refine (LineInService.drive ?_ (by rw [hk.map]; exact hdue) _ ?_).finish
      · unfold State.slotReady State.slots at *
        rw [hk.hwi]
        exact hready
      · unfold State.entryOf at *
        rw [hk.map]
        exact huse
    · rename_i t1 ht1
      rw [ht1] at hk
      refine (LineInService.enterSlot n ?_ (by rw [hk.map]; exact hdue)).finish
      rw [hk.hwi]
      exact ((t.slotReady_iff n).mp hready).2.1
  · exact .next h

theorem execRxdataWord_inService (n : Slot) (line : SlotBits) : Ensures (execRxdataWord n line s) LineInService := by
  refine .live h fun _ => ?_
  dsimp only
  split
  · rename_i hready _
    split_ifs
    · exact .fault _
    · exact LineInService.of_received hready ((Counts.screen _ _).trans (.receiveData _ _ _))
  · exact .next h

theorem execRxcontrolWord_inService (n : Slot) (line : SlotBits) :
    Ensures (execRxcontrolWord n line s) LineInService := by
  refine .live h fun _ => ?_
  dsimp only
  split
  · rename_i hready _
    exact LineInService.of_received hready ((Counts.screen _ _).trans (.receiveControl _ _ _))
  · exact .next h

theorem execUnusedSlotWord_inService (n : Slot) (line : SlotBits) :
    Ensures (execUnusedSlotWord n line s) LineInService := by
  refine .live h fun _ => ?_
  dsimp only
  split
  · rename_i hready _
    exact LineInService.of_received hready (.disposeUnused _ _)
  · exact .next h

/-- The end of a slot leaves no word on the line. -/
theorem LineInService.of_ended {clash f : Bool} {t : State} (hk : Counts f (s.endLine clash) t) :
    Ensures (Machine.finish t) LineInService := by
  have hfree : LineInService { s with hwi := { s.hwi with line := none } } := .of_idle rfl h.2
  exact ((hfree.of_counts (.endLine s clash)).of_counts hk).finish

theorem execTxdataReport_inService (line : SlotBits) : Ensures (execTxdataReport line s) LineInService := by
  refine .live h fun _ => ?_
  split
  · exact .next h
  · dsimp only
    split
    · exact h.of_ended (.reportCredit _ _ _)
    · exact h.of_ended (.modChan _ _)
    · exact h.of_ended (.setChan _ _ (Channel.countersLe_count _ _))
    · exact h.of_ended (.same _)
    · exact .next h

theorem execTxcontrolReport_inService (line : SlotBits) : Ensures (execTxcontrolReport line s) LineInService := by
  refine .live h fun _ => ?_
  split
  · exact .next h
  · split
    · exact h.of_ended (.settleControl _ _)
    all_goals exact .next h

end

/-- Every command keeps the line in service. -/
theorem exec_inService (i : Instr) {s : State} (h : LineInService s) : Ensures (exec i s) LineInService := by
  cases hb : besideHighway i with
  | true => exact (exec_offHighway s hb).mono fun t ht => h.of_off ht
  | false =>
    cases i
    case start => exact execStart_inService h
    case stop => exact execStop_inService h
    case switch => exact execSwitch_inService h
    case cancel => exact execCancel_inService h
    case softreset => exact execSoftreset_inService h
    case resetPin asserted => exact execResetPin_inService h asserted
    case hcfgWrite w => exact execHcfgWrite_inService h w
    case hdivWrite w => exact execHdivWrite_inService h w
    case pendingBankWrite w => exact execPendingBankWrite_inService h w
    case channelCounterRead => exact execChannelCounterRead_inService h
    case highwayCounterRead => exact execHighwayCounterRead_inService h
    case acquirePulse clock => exact execAcquirePulse_inService h clock
    case candidateHeader line => exact execCandidateHeader_inService h line
    case syncMiss => exact execSyncMiss_inService h
    case holdoverMiss => exact execHoldoverMiss_inService h
    case misplacedPulse bit => exact execMisplacedPulse_inService h bit
    case pulseAtExpectedBit => exact execPulseAtExpectedBit_inService h
    case followerHeaderSlot line => exact execFollowerHeaderSlot_inService h line
    case masterHeaderSlot line => exact execMasterHeaderSlot_inService h line
    case mapSwitch => exact execMapSwitch_inService h
    case txdataOffer n => exact execTxdataOffer_inService h n
    case txdataReport line => exact execTxdataReport_inService h line
    case txcontrolOffer n => exact execTxcontrolOffer_inService h n
    case txcontrolReport line => exact execTxcontrolReport_inService h line
    case rxdataWord n line => exact execRxdataWord_inService h n line
    case rxcontrolWord n line => exact execRxcontrolWord_inService h n line
    case unusedSlotWord n line => exact execUnusedSlotWord_inService h n line
    all_goals cases hb

/-- Every step keeps the line in service: the queue of commands is no part of it. -/
theorem step_inService {s t : State} (h : LineInService s) (hstep : step s = .next t) : LineInService t := by
  unfold step at hstep
  split at hstep
  · cases hstep
    exact h
  · rename_i i rest _
    exact exec_inService i (s := { s with pending := rest }) h t hstep

/-! ### What the part drives (01 R1, R4, R7) -/

theorem State.drivesClock_iff (s : State) :
    s.drivesClock = true ↔ s.resetPin = false ∧ s.hwi.role = .master ∧ s.hwi.sync = .locked := by
  simp [State.drivesClock, Highway.masterRuns_iff]

/-- A driven word is a Master's Header in slot 0, or the word of the slot in progress. -/
theorem State.drivenWord_some {s : State} {bits : SlotBits} (h : s.drivenWord = some bits) :
    (s.hwi.masterRuns = true ∧ s.hwi.position = .header ∧ bits = slotWord .header s.hwi.frame) ∨
      ∃ owner, s.hwi.line = some ⟨bits, owner⟩ := by
  unfold State.drivenWord at h
  split at h
  · rename_i hheader
    exact .inl ⟨hheader.1, hheader.2, (Option.some.inj h).symm⟩
  · obtain ⟨l, hl, rfl⟩ := Option.map_eq_some_iff.mp h
    exact .inr ⟨l.owner, hl⟩

/-- The slots of an owner are TxControl or TxData slots (02 Table 12). -/
theorem LineOwner.use_eq (o : LineOwner) : o.use = .txControl ∨ ∃ c, o.use = .txData c := by
  cases o
  case control => exact .inl rfl
  all_goals exact .inr ⟨_, rfl⟩

/-- Settles O16: the invariant command by command, then the lines that a state drives. -/
theorem theLineIsDrivenInOwnSlotsOnly : Obligations.TheLineIsDrivenInOwnSlotsOnly := by
  unfold Obligations.TheLineIsDrivenInOwnSlotsOnly
  refine ⟨fun s t => step_inService, State.drivesClock_iff, fun s bit => ?_, fun s bits h hword => ?_⟩
  · cases hd : s.drivesClock <;> simp [State.clockDivision, State.drivenHsync, hd]
  · rcases State.drivenWord_some hword with ⟨hmaster, hpos, hbits⟩ | ⟨owner, hline⟩
    · obtain ⟨hrole, hsync⟩ := s.hwi.masterRuns_iff.mp hmaster
      exact ⟨.inl hsync, .inl ⟨hrole, hpos, hbits⟩⟩
    · obtain ⟨hrun, -, n, hn, hslots, hpos, huse⟩ := h.1 _ hline
      exact ⟨s.hwi.running_iff.mp hrun, .inr ⟨n, hn, hslots, hpos, huse ▸ owner.use_eq⟩⟩

end Sys2Proof.Machine
end

section
/-! SUPPORT. Counters only advance, and the three that carry LineError raise it (01 R17, R18, 03 R50). -/

namespace Sys2Proof.Machine

-- One theorem after another, as in the tests: many at once ask for more threads than there are.
set_option Elab.async false

/-! ### What a command does to the counters -/

/-- From `s` to `t` no counter fell; without a fault of the line the three counters of R18 stand as they were, and with
one LineError is latched. -/
structure Accounts (fault : Bool) (s t : State) : Prop where
  highway : ∀ k : Fin 9, s.hwi.counters[k].toNat ≤ t.hwi.counters[k].toNat
  channel : ∀ c : Chan, (s.chan c).CountersLe (t.chan c)
  spared : fault = false → ∀ k : Fin 9, k.val < 3 → t.hwi.counters[k] = s.hwi.counters[k]
  latched : fault = true → t.evu.latches.getLsbD 6 = true

/-- All counters stand as they were. -/
structure SameCounters (s t : State) : Prop where
  highway : t.hwi.counters = s.hwi.counters
  channel : ∀ c : Chan, (t.chan c).counters = (s.chan c).counters

theorem SameCounters.trans {s t u : State} (h : SameCounters s t) (k : SameCounters t u) : SameCounters s u :=
  ⟨k.highway.trans h.highway, fun c => (k.channel c).trans (h.channel c)⟩

/-- What moves no counter and no channel. -/
theorem SameCounters.elsewhere {s t : State} (highway : t.hwi.counters = s.hwi.counters := by rfl)
    (chans : t.chans = s.chans := by rfl) : SameCounters s t :=
  ⟨highway, fun c => by rw [State.chan, State.chan, chans]⟩

theorem SameCounters.takeDue (s : State) : SameCounters s s.takeDue := ⟨by rw [s.takeDue_hwi], s.takeDue_counters⟩

theorem SameCounters.mapTest (s : State) : SameCounters s s.mapTest :=
  ⟨by rw [State.mapTest_frame], fun c => by rw [State.mapTest_chan]⟩

theorem SameCounters.enterSlot (s : State) (n : Slot) : SameCounters s (s.enterSlot n) := .elsewhere

theorem SameCounters.frameStart (s : State) : SameCounters s s.frameStart :=
  ⟨rfl, fun c => by unfold State.frameStart; rw [State.chan_mapChans]; rfl⟩

theorem SameCounters.loseHighway (s : State) (dest : Sync) (pulse : Option Nat) :
    SameCounters s (s.loseHighway dest pulse) :=
  ⟨rfl, fun c => by unfold State.loseHighway; rw [State.chan_mapChans, Channel.loseHighway_counters]; rfl⟩

namespace Accounts

theorem of_same {s t : State} (h : SameCounters s t) : Accounts false s t where
  highway k := by rw [h.highway]
  channel c := .of_eq (h.channel c)
  spared _ k _ := by rw [h.highway]
  latched hf := by cases hf

theorem of_off {s t : State} (h : OffHighway s t) : Accounts false s t where
  highway k := by rw [h.hwi]
  channel := h.counters
  spared _ k _ := by rw [h.hwi]
  latched hf := by cases hf

theorem of_counts {f : Bool} {s t : State} (h : Counts f s t) : Accounts f s t :=
  ⟨h.highway, h.channel, h.spared, h.latched⟩

/-- What came before moved no counter. -/
theorem after {f : Bool} {s t u : State} (h : SameCounters s t) (k : Accounts f t u) : Accounts f s u where
  highway i := by rw [← h.highway]; exact k.highway i
  channel c := (Channel.CountersLe.of_eq (h.channel c)).trans (k.channel c)
  spared hf i hi := by rw [k.spared hf i hi, h.highway]
  latched := k.latched

/-- What follows moves no counter and leaves the device latches. -/
theorem before {f : Bool} {s t u : State} (h : Accounts f s t) (k : SameCounters t u)
    (hl : u.evu.latches.getLsbD 6 = t.evu.latches.getLsbD 6) : Accounts f s u where
  highway i := by rw [k.highway]; exact h.highway i
  channel c := (h.channel c).trans (.of_eq (k.channel c))
  spared hf i hi := by rw [k.highway, h.spared hf i hi]
  latched hf := by rw [hl, h.latched hf]

theorem finish {f : Bool} {s t : State} (h : Accounts f s t) : Ensures (finish t) (Accounts f s) :=
  .next (h.before .elsewhere rfl)

theorem finishDevice {f : Bool} {s t : State} (h : Accounts f s t) (r : CmdResult) :
    Ensures (finishDevice t r) (Accounts f s) := .next (h.before .elsewhere rfl)

theorem same (s : State) : Accounts false s s := of_same .elsewhere

end Accounts

/-! ### The faults of the line (01 R18) -/

/-- The slot is an RxData slot (02 Table 12). -/
def MapUse.isRxData : MapUse → Bool
  | .rxData _ => true
  | .unused | .txData _ | .txControl | .rxControl _ => false

/-- The slot is an RxControl slot (02 Table 12). -/
def MapUse.isRxControl : MapUse → Bool
  | .rxControl _ => true
  | .unused | .txData _ | .rxData _ | .txControl => false

/-- The command finds a fault of the line that a counter of R18 counts: a clash of the word on the line (01 R5), a check
error in an RxData or RxControl slot (01 R6), a Follower's slot 0 without a valid Header (01 R8), a Master's clash in
slot 0 (01 R15). It is stated without the counters themselves. -/
def faultsLine (i : Instr) (s : State) : Bool :=
  match i with
  | .txdataReport line => s.hwi.line.any (fun l => decide (l.owner ≠ .control) && clashed l.bits line)
  | .txcontrolReport line => s.hwi.line.any (fun l => decide (l.owner = .control) && clashed l.bits line)
  | .rxdataWord n line =>
    s.takeDue.slotReady n && (s.takeDue.entryOf n).isRxData && (receive line == .checkError)
  | .rxcontrolWord n line =>
    s.takeDue.slotReady n && (s.takeDue.entryOf n).isRxControl && (receive line == .checkError)
  | .followerHeaderSlot line => s.hwi.followerHeaderReady && (validHeader line).isNone
  | .masterHeaderSlot line =>
    s.hwi.masterRuns && (s.hwi.position == .header || s.hwi.betweenSlots) &&
      clashed (slotWord .header s.takeDue.inMasterFrame.hwi.frame) line
  | _ => false

/-- A command beside the highway finds no fault of the line. -/
theorem faultsLine_of_besideHighway {i : Instr} (s : State) (h : besideHighway i = true) :
    faultsLine i s = false := by
  unfold faultsLine
  split
  case h_7 => rfl
  all_goals cases h

/-- The state with other values in the highway counters. -/
def State.withCounters (s : State) (v : Vector (BitVec 8) 9) : State := { s with hwi := { s.hwi with counters := v } }

/-- The map test looks at the Slot Map alone. -/
theorem State.mapTest_map_of_map {s t : State} (h : t.map = s.map) : t.mapTest.map = s.mapTest.map := by
  unfold State.mapTest
  rw [h]
  split
  · exact h
  · split
    · rfl
    · dsimp only
      split_ifs <;> rfl

/-- Whether a command faults the line does not depend on the counters. -/
theorem faultsLine_withCounters (i : Instr) (s : State) (v : Vector (BitVec 8) 9) :
    faultsLine i (s.withCounters v) = faultsLine i s := by
  have hready : ∀ n, (s.withCounters v).takeDue.slotReady n = s.takeDue.slotReady n := by
    intro n
    unfold State.slotReady State.slots
    rw [State.takeDue_hwi, State.takeDue_hwi]
    rfl
  have hentry : ∀ n, (s.withCounters v).takeDue.entryOf n = s.takeDue.entryOf n := by
    intro n
    unfold State.entryOf
    rw [(State.takeDue_map _).1, (State.takeDue_map _).1, State.mapTest_map_of_map (s := s) (t := s.withCounters v) rfl]
  have hframe : (s.withCounters v).takeDue.inMasterFrame.hwi.frame = s.takeDue.inMasterFrame.hwi.frame := by
    unfold State.inMasterFrame
    rw [State.takeDue_hwi, State.takeDue_hwi]
    change (if s.hwi.position = .header then _ else _ : State).hwi.frame = _
    split <;> simp [State.withCounters]
  cases i
  case rxdataWord n line => simp only [faultsLine, hready, hentry]
  case rxcontrolWord n line => simp only [faultsLine, hready, hentry]
  case masterHeaderSlot line =>
    simp only [faultsLine, hframe]
    rfl
  all_goals rfl

/-! ### Commands that move no counter -/

section
variable (s : State)

theorem execStart_accounts : Ensures (execStart s) (Accounts false s) := by
  refine .live (.same s) fun _ => ?_
  split
  · refine (Accounts.of_same ?_).finishDevice _
    unfold State.startHighway
    cases s.hwi.role <;> exact .elsewhere
  all_goals exact (Accounts.same s).finishDevice _

theorem execStop_accounts : Ensures (execStop s) (Accounts false s) := by
  have hlost : Accounts false s (s.takeDue.loseHighway .off none) :=
    .of_same ((SameCounters.takeDue s).trans (.loseHighway _ _ _))
  refine .live (.same s) fun _ => ?_
  split
  · exact (Accounts.same s).finishDevice _
  · exact (Accounts.of_same .elsewhere).finishDevice _
  all_goals exact hlost.finishDevice _

theorem execSwitch_accounts : Ensures (execSwitch s) (Accounts false s) := by
  refine .live (.same s) fun _ => ?_
  split_ifs
  · exact (Accounts.same s).finishDevice _
  · exact (Accounts.same s).finishDevice _
  · exact (Accounts.of_same .elsewhere).finishDevice _
  · exact (Accounts.of_same .elsewhere).finishDevice _

theorem execCancel_accounts : Ensures (execCancel s) (Accounts false s) := by
  refine .live (.same s) fun _ => ?_
  split_ifs
  · exact (Accounts.of_same .elsewhere).finishDevice _
  · exact (Accounts.same s).finishDevice _

theorem execResetPin_accounts : Ensures (execResetPin false s) (Accounts false s) := .next (.of_same .elsewhere)

theorem execHcfgWrite_accounts (w : Word) : Ensures (execHcfgWrite w s) (Accounts false s) := by
  refine .live (.same s) fun _ => ?_
  split
  · exact (Accounts.of_same .elsewhere).finish
  · exact (Accounts.same s).finishDevice _

theorem execHdivWrite_accounts (w : Word) : Ensures (execHdivWrite w s) (Accounts false s) := by
  refine .live (.same s) fun _ => ?_
  split
  · exact (Accounts.of_same .elsewhere).finish
  · exact (Accounts.same s).finishDevice _

theorem execPendingBankWrite_accounts (w : Word) : Ensures (execPendingBankWrite w s) (Accounts false s) := by
  refine tableAccess_ensures s (.same s) fun _ _ => .of_same ?_
  unfold State.writePending
  split
  · exact .elsewhere
  · split <;> exact .elsewhere

theorem execAcquirePulse_accounts (clock : Nat) : Ensures (execAcquirePulse clock s) (Accounts false s) := by
  refine .live (.same s) fun _ => ?_
  split_ifs
  · exact (Accounts.of_same .elsewhere).finish
  · exact (Accounts.of_same .elsewhere).finish
  · exact .next (.same s)
  · exact .next (.same s)

theorem execCandidateHeader_accounts (line : SlotBits) : Ensures (execCandidateHeader line s) (Accounts false s) := by
  refine .live (.same s) fun _ => ?_
  split_ifs
  · have hdue := SameCounters.takeDue s
    generalize s.takeDue = t at hdue ⊢
    dsimp only
    split
    · rename_i payload _
      refine (Accounts.of_same (hdue.trans (.trans (t := State.raise { t with hwi := { t.hwi with
        sync := .locked, frame := payload, frameBit := t.hwi.lastPulse.getD 0, lastPulse := none,
        candidate := false } } .lockGained) .elsewhere (.frameStart _)))).finish
    · exact (Accounts.of_same (hdue.trans .elsewhere)).finish
  · exact .next (.same s)

theorem execPulseAtExpectedBit_accounts : Ensures (execPulseAtExpectedBit s) (Accounts false s) := by
  have hdue := SameCounters.takeDue s
  refine .live (.same s) fun _ => ?_
  dsimp only
  generalize s.takeDue = t at hdue ⊢
  split_ifs
  · exact (Accounts.of_same (hdue.trans .elsewhere)).finish
  · exact (Accounts.of_same (hdue.trans .elsewhere)).finish
  · exact .next (.same s)
  · exact .next (.same s)

theorem execMapSwitch_accounts : Ensures (execMapSwitch s) (Accounts false s) :=
  .live (.same s) fun _ => (Accounts.of_same (.mapTest s)).finish

/-! ### Commands that count beside LineError -/

/-- A counter that carries no LineError advances (01 R17). -/
theorem Accounts.countHw (k : HwCounter) (hk : 3 ≤ k.index.val := by decide) : Accounts false s (s.countHw k) :=
  .of_counts (.countHw s k hk)

theorem execSyncMiss_accounts : Ensures (execSyncMiss s) (Accounts false s) := by
  refine .live (.same s) fun _ => ?_
  split_ifs
  · have hdue := SameCounters.takeDue s
    generalize s.takeDue = t at hdue ⊢
    have hmiss := Accounts.countHw { t with hwi := { t.hwi with sync := .holdover } } .syncMisses
    exact .finish (.before (hmiss.after (hdue.trans .elsewhere)) .elsewhere rfl)
  · exact .next (.same s)

/-- A loss by HSYNC pulses counts one miss (01 R13, R14). -/
theorem Accounts.loseLock (pulse : Option Nat) : Accounts false s (s.loseLock pulse) := by
  refine ((Accounts.countHw s .syncMisses).before (u := (s.countHw .syncMisses).raise .lockLost) .elsewhere ?_).before
    (.loseHighway _ _ _) rfl
  simp [DevEvent.position]

theorem execHoldoverMiss_accounts : Ensures (execHoldoverMiss s) (Accounts false s) := by
  refine .live (.same s) fun _ => ?_
  split_ifs
  · exact ((Accounts.loseLock _ none).after (.takeDue s)).finish
  · exact .next (.same s)

theorem execMisplacedPulse_accounts (bit : Nat) : Ensures (execMisplacedPulse bit s) (Accounts false s) := by
  have hdue := SameCounters.takeDue s
  refine .live (.same s) fun _ => ?_
  dsimp only
  generalize s.takeDue = t at hdue ⊢
  split_ifs
  · exact ((Accounts.loseLock _ _).after (hdue.trans .elsewhere)).finish
  · exact (Accounts.of_same (hdue.trans .elsewhere)).finish
  · exact .next (.same s)
  · exact .next (.same s)

theorem execUnusedSlotWord_accounts (n : Slot) (line : SlotBits) :
    Ensures (execUnusedSlotWord n line s) (Accounts false s) := by
  have hdue := SameCounters.takeDue s
  refine .live (.same s) fun _ => ?_
  dsimp only
  generalize s.takeDue = t at hdue ⊢
  split
  · exact ((Accounts.of_counts (.disposeUnused (t.enterSlot n) _)).after (hdue.trans .elsewhere)).finish
  · exact .next (.same s)

theorem execTxdataOffer_accounts (n : Slot) : Ensures (execTxdataOffer n s) (Accounts false s) := by
  have hdue := SameCounters.takeDue s
  refine .live (.same s) fun _ => ?_
  dsimp only
  generalize s.takeDue = t at hdue ⊢
  split
  · rename_i c _ _
    split
    · rename_i a ha
      obtain ⟨hle, -⟩ := Channel.offer_serves _ c ha
      have hdrive : ∀ bits, Accounts false s ((t.setChan c a.after).drive n bits a.owner) := fun bits =>
        ((Accounts.of_counts (.setChan t c hle)).after hdue).before .elsewhere rfl
      unfold State.driveAnswer
      split
      · exact (hdrive _).finish
      · split_ifs
        · exact (hdrive _).finish
        · exact .fault _
    · exact (Accounts.of_same (hdue.trans .elsewhere)).finish
  · exact .next (.same s)

theorem execTxcontrolOffer_accounts (n : Slot) : Ensures (execTxcontrolOffer n s) (Accounts false s) := by
  have hdue := SameCounters.takeDue s
  refine .live (.same s) fun _ => ?_
  dsimp only
  generalize s.takeDue = t at hdue ⊢
  split
  · have hk := (Accounts.of_counts (.arbitrate t)).after hdue
    split
    · rename_i ht1
      rw [ht1] at hk
      exact .finish (hk.before .elsewhere rfl)
    · rename_i ht1
      rw [ht1] at hk
      exact .finish (hk.before .elsewhere rfl)
  · exact .next (.same s)

/-! ### Commands that may find a fault of the line -/

/-- The end of a slot is a fault of the line exactly with a clash (01 R5). -/
theorem Accounts.of_ended {clash : Bool} {t : State} (hk : Counts false (s.endLine clash) t) :
    Ensures (Machine.finish t) (Accounts clash s) := by
  have h := (Counts.endLine s clash).trans hk
  rw [Bool.or_false] at h
  exact ((Accounts.of_counts h).after .elsewhere).finish

theorem execTxdataReport_accounts (line : SlotBits) :
    Ensures (execTxdataReport line s) (Accounts (!s.resetPin && faultsLine (.txdataReport line) s) s) := by
  unfold execTxdataReport whenLive
  cases s.resetPin
  · cases hl : s.hwi.line with
    | none => simpa [faultsLine, hl] using Ensures.next (Accounts.same s)
    | some l =>
      obtain ⟨bits, owner⟩ := l
      cases owner
      case creditData c =>
        simpa [faultsLine, hl] using Accounts.of_ended s (.reportCredit (s.endLine (clashed bits line)) c _)
      case streamWord c =>
        simpa [faultsLine, hl] using Accounts.of_ended s
          (.modChan (s.endLine (clashed bits line)) c (f := Channel.reportStreamWord))
      case streamFill c =>
        simpa [faultsLine, hl, State.modChan] using Accounts.of_ended s
          (.setChan (s.endLine (clashed bits line)) c (Channel.countersLe_count _ .underruns))
      case streamEnd c =>
        simpa [faultsLine, hl] using Accounts.of_ended s (.same (s.endLine (clashed bits line)))
      case control => simpa [faultsLine, hl] using Ensures.next (Accounts.same s)
  · exact .next (.same s)

theorem execTxcontrolReport_accounts (line : SlotBits) :
    Ensures (execTxcontrolReport line s) (Accounts (!s.resetPin && faultsLine (.txcontrolReport line) s) s) := by
  unfold execTxcontrolReport whenLive
  cases s.resetPin
  · cases hl : s.hwi.line with
    | none => simpa [faultsLine, hl] using Ensures.next (Accounts.same s)
    | some l =>
      obtain ⟨bits, owner⟩ := l
      cases owner
      case control =>
        simpa [faultsLine, hl] using Accounts.of_ended s (.settleControl (s.endLine (clashed bits line)) _)
      all_goals simpa [faultsLine, hl] using Ensures.next (Accounts.same s)
  · exact .next (.same s)

/-- A word of an RxData or RxControl slot is a fault of the line exactly with a check error (01 R6). -/
theorem Accounts.of_received {n : Slot} {w : Received} {t u : State} (hdue : SameCounters s t)
    (hk : Counts false ((t.enterSlot n).screen w) u) :
    Ensures (Machine.finish u) (Accounts (w == .checkError) s) := by
  have h := (Counts.screen _ _).trans hk
  rw [Bool.or_false] at h
  exact ((Accounts.of_counts h).after (hdue.trans (.enterSlot t n))).finish

theorem execRxdataWord_accounts (n : Slot) (line : SlotBits) :
    Ensures (execRxdataWord n line s) (Accounts (!s.resetPin && faultsLine (.rxdataWord n line) s) s) := by
  have hdue := SameCounters.takeDue s
  unfold execRxdataWord whenLive faultsLine
  generalize s.takeDue = t at hdue ⊢
  cases s.resetPin
  · cases hready : t.slotReady n
    · simpa [hready] using Ensures.next (Accounts.same s)
    · cases huse : t.entryOf n
      case rxData c =>
        simp only [Bool.false_eq_true, if_false, hready, huse]
        split
        · exact .fault _
        · simpa [MapUse.isRxData] using Accounts.of_received s hdue (.receiveData _ c (receive line))
      all_goals simpa [hready, huse, MapUse.isRxData] using Ensures.next (Accounts.same s)
  · exact .next (.same s)

theorem execRxcontrolWord_accounts (n : Slot) (line : SlotBits) :
    Ensures (execRxcontrolWord n line s) (Accounts (!s.resetPin && faultsLine (.rxcontrolWord n line) s) s) := by
  have hdue := SameCounters.takeDue s
  unfold execRxcontrolWord whenLive faultsLine
  generalize s.takeDue = t at hdue ⊢
  cases s.resetPin
  · cases hready : t.slotReady n
    · simpa [hready] using Ensures.next (Accounts.same s)
    · cases huse : t.entryOf n
      case rxControl p =>
        simpa [hready, huse, MapUse.isRxControl] using
          Accounts.of_received s hdue (n := n) (.receiveControl _ p (receive line))
      all_goals simpa [hready, huse, MapUse.isRxControl] using Ensures.next (Accounts.same s)
  · exact .next (.same s)

/-- A Follower's slot 0 is a fault of the line exactly without a valid Header (01 R8). -/
theorem Accounts.checkHeader (line : SlotBits) :
    Accounts (validHeader line).isNone s (s.checkHeader line) := by
  unfold State.checkHeader
  split
  · rename_i payload hvalid
    rw [hvalid]
    split
    · exact .same s
    · have hslip := Accounts.countHw { s with hwi := { s.hwi with frame := payload } } .frameSlips
      exact .before (hslip.after .elsewhere) .elsewhere (by simp [DevEvent.position])
  · rename_i hvalid
    rw [hvalid]
    exact .of_counts (.lineFault s .headerFaults)

/-- Beginning the frame of slot 0 moves no counter. -/
theorem SameCounters.inFollowerFrame : SameCounters s s.inFollowerFrame := by
  unfold State.inFollowerFrame
  split <;> exact .elsewhere

theorem SameCounters.inMasterFrame : SameCounters s s.inMasterFrame := by
  unfold State.inMasterFrame
  split <;> exact .elsewhere

theorem execFollowerHeaderSlot_accounts (line : SlotBits) :
    Ensures (execFollowerHeaderSlot line s)
      (Accounts (!s.resetPin && faultsLine (.followerHeaderSlot line) s) s) := by
  unfold execFollowerHeaderSlot whenLive faultsLine
  cases s.resetPin
  · cases s.hwi.followerHeaderReady
    · exact .next (.same s)
    · have hbegun := (SameCounters.takeDue s).trans (.inFollowerFrame _)
      exact (((Accounts.checkHeader _ line).after hbegun).before (.frameStart _) rfl).finish
  · exact .next (.same s)

/-- A Master's clash in slot 0 is a fault of the line (01 R15). -/
theorem Accounts.masterConflict : Accounts true s s.masterConflict := by
  have hfault := Accounts.of_counts (.lineFault s .clashes)
  exact .before (.before (u := (s.lineFault .clashes).raise .masterConflict) hfault .elsewhere
    (by simp [DevEvent.position])) (.loseHighway _ _ _) rfl

theorem execMasterHeaderSlot_accounts (line : SlotBits) :
    Ensures (execMasterHeaderSlot line s)
      (Accounts (!s.resetPin && faultsLine (.masterHeaderSlot line) s) s) := by
  have hbegun := (SameCounters.takeDue s).trans (.inMasterFrame _)
  unfold execMasterHeaderSlot whenLive faultsLine
  generalize s.takeDue.inMasterFrame = t at hbegun ⊢
  cases s.resetPin
  · by_cases hready : s.hwi.masterRuns = true ∧ (s.hwi.position = .header ∨ s.hwi.betweenSlots = true)
    · have hready' : (s.hwi.masterRuns && (s.hwi.position == .header || s.hwi.betweenSlots)) = true := by
        simpa using hready
      rw [if_neg (by simp), if_pos hready, hready']
      cases hclash : clashed (slotWord .header t.hwi.frame) line
      · simpa [hclash] using (Accounts.of_same (hbegun.trans (.frameStart _))).finish
      · simpa [hclash] using ((Accounts.masterConflict t).after hbegun).finish
    · have hready' : (s.hwi.masterRuns && (s.hwi.position == .header || s.hwi.betweenSlots)) = false := by
        simpa using hready
      rw [if_neg (by simp), if_neg hready, hready']
      exact .next (.same s)
  · exact .next (.same s)

end

/-! ### Every command -/

/-- Every command but the counter reads and the resets accounts for the counters. -/
theorem exec_accounts (i : Instr) (s : State) (hsoft : i ≠ .softreset) (hpin : i ≠ .resetPin true)
    (hhighway : i ≠ .highwayCounterRead) (hchannel : i ≠ .channelCounterRead) :
    Ensures (exec i s) (Accounts (!s.resetPin && faultsLine i s) s) := by
  -- The rows without a fault of the line.
  have hspared : faultsLine i s = false → Ensures (exec i s) (Accounts false s) →
      Ensures (exec i s) (Accounts (!s.resetPin && faultsLine i s) s) := by
    intro hf he
    rwa [hf, Bool.and_false]
  cases hb : besideHighway i with
  | true =>
    exact hspared (faultsLine_of_besideHighway s hb) ((exec_offHighway s hb).mono fun t ht => .of_off ht)
  | false =>
    cases i
    case softreset => exact absurd rfl hsoft
    case highwayCounterRead => exact absurd rfl hhighway
    case channelCounterRead => exact absurd rfl hchannel
    case resetPin asserted =>
      cases asserted
      · exact hspared rfl (execResetPin_accounts s)
      · exact absurd rfl hpin
    case start => exact hspared rfl (execStart_accounts s)
    case stop => exact hspared rfl (execStop_accounts s)
    case switch => exact hspared rfl (execSwitch_accounts s)
    case cancel => exact hspared rfl (execCancel_accounts s)
    case hcfgWrite w => exact hspared rfl (execHcfgWrite_accounts s w)
    case hdivWrite w => exact hspared rfl (execHdivWrite_accounts s w)
    case pendingBankWrite w => exact hspared rfl (execPendingBankWrite_accounts s w)
    case acquirePulse clock => exact hspared rfl (execAcquirePulse_accounts s clock)
    case candidateHeader line => exact hspared rfl (execCandidateHeader_accounts s line)
    case syncMiss => exact hspared rfl (execSyncMiss_accounts s)
    case holdoverMiss => exact hspared rfl (execHoldoverMiss_accounts s)
    case misplacedPulse bit => exact hspared rfl (execMisplacedPulse_accounts s bit)
    case pulseAtExpectedBit => exact hspared rfl (execPulseAtExpectedBit_accounts s)
    case mapSwitch => exact hspared rfl (execMapSwitch_accounts s)
    case txdataOffer n => exact hspared rfl (execTxdataOffer_accounts s n)
    case txcontrolOffer n => exact hspared rfl (execTxcontrolOffer_accounts s n)
    case unusedSlotWord n line => exact hspared rfl (execUnusedSlotWord_accounts s n line)
    case txdataReport line => exact execTxdataReport_accounts s line
    case txcontrolReport line => exact execTxcontrolReport_accounts s line
    case rxdataWord n line => exact execRxdataWord_accounts s n line
    case rxcontrolWord n line => exact execRxcontrolWord_accounts s n line
    case followerHeaderSlot line => exact execFollowerHeaderSlot_accounts s line
    case masterHeaderSlot line => exact execMasterHeaderSlot_accounts s line
    all_goals cases hb

/-- A read of the highway counters moves no channel counter. -/
theorem execHighwayCounterRead_channel (s : State) :
    Ensures (execHighwayCounterRead s) (fun t => ∀ c, (s.chan c).CountersLe (t.chan c)) :=
  tableAccess_ensures s (fun _ => .of_eq rfl) fun _ _ _ => .of_eq rfl

/-- A read of the channel counters moves no highway counter. -/
theorem execChannelCounterRead_hwi (s : State) : Ensures (execChannelCounterRead s) (fun t => t.hwi = s.hwi) :=
  tableAccess_ensures s rfl fun _ _ => rfl

/-- Settles O19: what every command does to the counters, read three times; the last time on the state with the counter
values `v`, where the command faults the line exactly if it does so from `s`. -/
theorem countersOnlyAdvance : Obligations.CountersOnlyAdvance := by
  unfold Obligations.CountersOnlyAdvance
  intro i s t h hsoft hpin
  refine ⟨fun hread k => ?_, fun hread c => ?_, fun hread v u k hk hu hmoved => ?_⟩
  · by_cases hch : i = .channelCounterRead
    · subst hch
      rw [execChannelCounterRead_hwi s t h]
    · exact (exec_accounts i s hsoft hpin hread hch t h).highway k
  · by_cases hhw : i = .highwayCounterRead
    · subst hhw
      exact execHighwayCounterRead_channel s t h c
    · exact (exec_accounts i s hsoft hpin hhw hread t h).channel c
  · by_cases hch : i = .channelCounterRead
    · subst hch
      rw [execChannelCounterRead_hwi _ u hu] at hmoved
      exact absurd rfl hmoved
    · have hu' := exec_accounts i (s.withCounters v) hsoft hpin hread hch u hu
      have ht := exec_accounts i s hsoft hpin hread hch t h
      have hlive : (s.withCounters v).resetPin = s.resetPin := rfl
      rw [faultsLine_withCounters, hlive] at hu'
      refine ht.latched ?_
      by_contra hno
      exact hmoved (hu'.spared (by simpa using hno) k hk)

end Sys2Proof.Machine
end

section
/-! SUPPORT. Words and their bits: the parity of a slot word, its fields, and the fields of a control word (01 R3,
Tables 8 and 9, 04 Tables 20 and 21). -/

namespace Sys2Proof.Machine

-- One theorem after another, as in the tests: many at once ask for more threads than there are.
set_option Elab.async false

/-! ### Counting ones (01 R3) -/

/-- The ones of two vectors in a row are the ones of both. -/
theorem onesOf_append {m n : Nat} (x : BitVec m) (y : BitVec n) : onesOf (x ++ y) = onesOf x + onesOf y := by
  have hrange : List.range (m + n) = List.range n ++ (List.range m).map (n + ·) := by
    rw [Nat.add_comm, List.range_add]
  unfold onesOf
  rw [hrange, List.countP_append, List.countP_map, Nat.add_comm]
  congr 1
  · refine List.countP_congr fun i _ => ?_
    simp [BitVec.getLsbD_append]
  · refine List.countP_congr fun i hi => ?_
    simp [BitVec.getLsbD_append, List.mem_range.mp hi]

/-- Two predicates that differ at one place of a range alone hold together an odd number of times. -/
theorem countP_add_countP_odd {p q : Nat → Bool} {i : Nat} (hi : q i = !p i) (h : ∀ j, j ≠ i → q j = p j) (n : Nat) :
    ((List.range n).countP q + (List.range n).countP p) % 2 = if i < n then 1 else 0 := by
  induction n with
  | zero => rfl
  | succ n ih =>
    rw [List.range_succ, List.countP_append, List.countP_append, List.countP_singleton, List.countP_singleton]
    by_cases hn : n = i
    · subst hn
      rw [if_neg (Nat.lt_irrefl _)] at ih
      rw [hi, if_pos (Nat.lt_succ_self _)]
      cases p n <;> simp <;> omega
    · have hlt : i < n + 1 ↔ i < n := by omega
      rw [h n hn, if_congr hlt rfl rfl, ← ih]
      omega

/-- One wrong bit turns the parity. -/
theorem onesOf_flip {n : Nat} (x : BitVec n) (i : Fin n) :
    onesOf (x ^^^ BitVec.twoPow n i.val) % 2 = (onesOf x + 1) % 2 := by
  have h := countP_add_countP_odd (p := fun j => x.getLsbD j)
    (q := fun j => (x ^^^ BitVec.twoPow n i.val).getLsbD j) (i := i.val)
    (by simp) (fun j hj => by simp [BitVec.getLsbD_twoPow, Ne.symm hj]) n
  rw [if_pos i.isLt] at h
  unfold onesOf
  omega

/-- The ones of a single bit. -/
theorem onesOf_one (b : BitVec 1) : onesOf b = b.toNat := by
  revert b
  decide

/-! ### Codes (01 Table 9, 04 Table 21) -/

theorem kindOfCode_code (k : Kind) : kindOfCode k.code = k := by cases k <;> rfl

theorem code_kindOfCode (x : BitVec 3) : (kindOfCode x).code = x := by
  revert x
  decide

theorem opcodeOfCode_code (op : Opcode) : opcodeOfCode op.code = op := by cases op <;> rfl

theorem code_opcodeOfCode (x : BitVec 3) : (opcodeOfCode x).code = x := by
  revert x
  decide

/-! ### Slot words (01 Table 8) -/

theorem lineKind_slotWord (k : Kind) (p : Word) : lineKind (slotWord k p) = k := by
  unfold lineKind slotWord
  dsimp only
  rw [BitVec.extractLsb'_append_eq_of_le (by decide), BitVec.extractLsb'_append_eq_of_le (by decide), BitVec.extractLsb'_eq_self,
    kindOfCode_code]

theorem linePayload_slotWord (k : Kind) (p : Word) : linePayload (slotWord k p) = p := by
  unfold linePayload slotWord
  dsimp only
  rw [BitVec.extractLsb'_append_eq_of_le (by decide), BitVec.extractLsb'_append_eq_of_add_le (by decide), BitVec.extractLsb'_eq_self]

/-- Every word sent has an even number of ones. -/
theorem onesOf_slotWord (k : Kind) (p : Word) : onesOf (slotWord k p) % 2 = 0 := by
  unfold slotWord
  dsimp only
  rw [onesOf_append, onesOf_one, BitVec.toNat_ofNat]
  omega

/-- A word sent is received as what it is. -/
theorem receive_slotWord (k : Kind) (p : Word) : receive (slotWord k p) = .word k p := by
  simp [receive, checkPasses, onesOf_slotWord, lineKind_slotWord, linePayload_slotWord]

/-- A received word is its kind code, its payload and its check bit in a row. -/
theorem line_eq_fields (line : SlotBits) :
    line = ((lineKind line).code ++ linePayload line : BitVec 19) ++ line.extractLsb' 0 1 := by
  unfold lineKind linePayload
  rw [code_kindOfCode]
  exact BitVec.extractLsb'_eq_self.symm.trans (by
    rw [BitVec.extractLsb'_append_extractLsb'_eq_extractLsb' (by decide),
      BitVec.extractLsb'_append_extractLsb'_eq_extractLsb' (by decide)])

/-- A received word that passes its check is the one word of its kind and payload. -/
theorem eq_slotWord_of_receive {line : SlotBits} {k : Kind} {p : Word} (h : receive line = .word k p) :
    line = slotWord k p := by
  unfold receive at h
  split at h
  · rename_i hcheck
    cases h
    have heven : onesOf line % 2 = 0 := by simpa [checkPasses] using hcheck
    have hline := line_eq_fields line
    rw [hline, onesOf_append, onesOf_one] at heven
    conv_lhs => rw [hline]
    unfold slotWord
    dsimp only
    congr 1
    refine BitVec.eq_of_toNat_eq ?_
    have hbit := (line.extractLsb' 0 1).isLt
    rw [BitVec.toNat_ofNat]
    omega
  · cases h

/-! ### Control words (04 Table 20) -/

theorem ctlStation_controlPayload (st ch : Address) (op : Opcode) (v : BitVec 5) :
    ctlStation (controlPayload st ch op v) = st := by
  unfold ctlStation controlPayload
  rw [BitVec.extractLsb'_append_eq_of_le (by decide), BitVec.extractLsb'_append_eq_of_le (by decide),
    BitVec.extractLsb'_append_eq_of_le (by decide), BitVec.extractLsb'_eq_self]

theorem ctlChannel_controlPayload (st ch : Address) (op : Opcode) (v : BitVec 5) :
    ctlChannel (controlPayload st ch op v) = ch := by
  unfold ctlChannel controlPayload
  rw [BitVec.extractLsb'_append_eq_of_le (by decide), BitVec.extractLsb'_append_eq_of_le (by decide),
    BitVec.extractLsb'_append_eq_of_add_le (by decide), BitVec.extractLsb'_eq_self]

theorem ctlOpcode_controlPayload (st ch : Address) (op : Opcode) (v : BitVec 5) :
    ctlOpcode (controlPayload st ch op v) = op := by
  unfold ctlOpcode controlPayload
  rw [BitVec.extractLsb'_append_eq_of_le (by decide), BitVec.extractLsb'_append_eq_of_add_le (by decide), BitVec.extractLsb'_eq_self,
    opcodeOfCode_code]

theorem ctlValue_controlPayload (st ch : Address) (op : Opcode) (v : BitVec 5) :
    ctlValue (controlPayload st ch op v) = v := by
  unfold ctlValue controlPayload
  rw [BitVec.extractLsb'_append_eq_of_add_le (by decide), BitVec.extractLsb'_eq_self]

/-- The four fields are the whole of a control word. -/
theorem controlPayload_fields (w : Word) :
    controlPayload (ctlStation w) (ctlChannel w) (ctlOpcode w) (ctlValue w) = w := by
  unfold controlPayload ctlStation ctlChannel ctlOpcode ctlValue
  rw [code_opcodeOfCode, BitVec.extractLsb'_append_extractLsb'_eq_extractLsb' (by decide), BitVec.extractLsb'_append_extractLsb'_eq_extractLsb' (by decide),
    BitVec.extractLsb'_append_extractLsb'_eq_extractLsb' (by decide), BitVec.extractLsb'_eq_self]

/-- Settles O22: the parity of what is sent, its fields, and the fields of control words. -/
theorem wordFormatsRoundTrip : Obligations.WordFormatsRoundTrip := by
  unfold Obligations.WordFormatsRoundTrip
  refine ⟨⟨fun k p => ⟨onesOf_slotWord k p, receive_slotWord k p⟩, fun line k p => eq_slotWord_of_receive,
    fun k p i => ?_, ?_⟩, fun st ch op v => ?_, controlPayload_fields⟩
  · have hodd : onesOf (slotWord k p ^^^ BitVec.twoPow 20 i.val) % 2 = 1 := by
      have hflip := onesOf_flip (slotWord k p) i
      have heven := onesOf_slotWord k p
      omega
    simp [receive, checkPasses, hodd]
  · decide
  · exact ⟨ctlStation_controlPayload st ch op v, ctlChannel_controlPayload st ch op v,
      ctlOpcode_controlPayload st ch op v, ctlValue_controlPayload st ch op v⟩

end Sys2Proof.Machine
end

section
/-! SUPPORT. The steps that fall due when nothing is due, and what a highway loss does to the engines (01 R16, 07 R117,
R124, 08 R138). -/

namespace Sys2Proof.Machine

-- One theorem after another, as in the tests: many at once ask for more threads than there are.
set_option Elab.async false

/-! ### Nothing is due (log entry 8) -/

theorem State.quiet_iff (s : State) :
    s.quiet = true ↔ s.map.dueFrame = none ∧ s.lnk.refreshDue = false ∧
      ∀ c : Chan, (s.chan c).answerDue = false ∧ (s.chan c).probeDue s.lnk.probeDelay = false ∧
        s.drainDue c = false := by
  simp [State.quiet, and_assoc]

/-- A sequence of steps of which each changes nothing changes nothing. -/
theorem foldl_of_fixed {α β : Type} {f : β → α → β} {b : β} (h : ∀ a, f b a = b) (l : List α) : l.foldl f b = b := by
  induction l with
  | nil => rfl
  | cons a l ih => rw [List.foldl_cons, h, ih]

/-- With nothing due nothing is taken. -/
theorem State.takeDue_of_quiet {s : State} (h : s.quiet = true) : s.takeDue = s := by
  obtain ⟨hmap, hrefresh, hchan⟩ := s.quiet_iff.mp h
  unfold State.takeDue
  dsimp only
  rw [State.mapTest_of_not_due s hmap,
    foldl_of_fixed fun c => s.takeAnswerExpiry_of_not_due c (hchan c).1,
    foldl_of_fixed fun c => s.takeProbeExpiry_of_not_due c (hchan c).2.1,
    State.takeRefresh_of_not_due s hrefresh, foldl_of_fixed fun c => s.takeDrain_of_not_due c (hchan c).2.2]

/-! ### A highway loss on one channel -/

/-- The Receive Engine's part (08 R138). -/
theorem Channel.rxLoss_rxLossOn (ch : Channel) : RxLossOn ch ch.rxLoss := by
  unfold Channel.rxLoss Channel.closeBroken
  cases hopen : ch.rx.openRecord with
  | none =>
    rw [Channel.closeOpen_none ch _ _ hopen]
    refine ⟨rfl, rfl, fun _ => ⟨rfl, rfl⟩, fun r hr => ?_⟩
    rw [hopen] at hr
    cases hr
  | some r =>
    rw [Channel.closeOpen_some ch _ _ hopen]
    refine ⟨rfl, rfl, fun hn => ?_, fun q hq => ?_⟩
    · rw [hopen] at hn
      cases hn
    · rw [hopen] at hq
      cases hq
      exact ⟨rfl, by simp [RxFlags.any, Channel.setDiscard]⟩

/-- The cut of a credit channel's list (07 R117). -/
theorem TxSide.cutCredit_eq (t : TxSide) :
    ∃ ms, t.cutCredit = { t with messages := ms, onLine := false } ∧ (t.messages = [] → ms = []) ∧
      ∀ m rest, t.messages = m :: rest →
        ms = (if 0 < m.sent ∨ t.onLine = true then
          { m with sent := 0, clashed := false, restarted := true } else m) :: rest := by
  unfold TxSide.cutCredit
  split
  · rename_i hnil
    refine ⟨[], by rw [← hnil], fun _ => rfl, fun m rest hm => ?_⟩
    rw [hnil] at hm
    cases hm
  · rename_i m rest hcons
    split
    · rename_i hstarted
      refine ⟨{ m with sent := 0, clashed := false, restarted := true } :: rest, rfl, by simp [hcons],
        fun m' rest' hm => ?_⟩
      rw [hcons] at hm
      cases hm
      rw [if_pos hstarted]
    · rename_i hwaiting
      have hoff : t.onLine = false := by simpa using fun ho => hwaiting (.inr ho)
      refine ⟨t.messages, by rw [← hoff], fun hn => hn, fun m' rest' hm => ?_⟩
      rw [hcons] at hm
      cases hm
      rw [if_neg hwaiting, hcons]

/-- The loss on a sending stream channel (07 R124). -/
theorem Channel.cutStream_tx (ch : Channel) :
    ch.cutStream.tx = { ch.tx with
      fifo := if ch.tx.onLine then ch.tx.fifo.tail else ch.tx.fifo
      free := if ch.tx.onLine then (ch.tx.free + 1) % ch.txRegion.capacity else ch.tx.free
      onLine := false
      inProgress := false
      pendingEnd := ch.tx.pendingEnd && !ch.tx.inProgress
      restartMark := ch.tx.restartMark || (ch.tx.inProgress && !ch.tx.pendingEnd) } := by
  have heta : ch.tx = { ch.tx with inProgress := ch.tx.inProgress, onLine := ch.tx.onLine } := rfl
  unfold Channel.cutStream Channel.reportStreamWord
  cases hline : ch.tx.onLine <;> cases hprogress : ch.tx.inProgress <;> simp [hline, hprogress]
  -- Neither a word on the line nor a message in progress: the sending side stays as it is.
  exact heta.trans (by rw [hline, hprogress])

/-- The Transmit Engine's part (07 R117, R124). -/
theorem Channel.cutTx_txLossOn (ch : Channel) : TxLossOn ch ch.cutTx := by
  unfold TxLossOn Channel.cutTx
  cases hmode : ch.config.mode
  case credit => simpa using ch.tx.cutCredit_eq
  case stream =>
    cases hsend : ch.streamSending
    · simp
    · simpa using ch.cutStream_tx

/-- The Transmit Engine's part of a loss leaves everything but the sending side. -/
theorem Channel.cutTx_eq (ch : Channel) : ch.cutTx = { ch with tx := ch.cutTx.tx } := by
  unfold Channel.cutTx Channel.cutStream Channel.reportStreamWord
  split
  · rfl
  · split
    · dsimp only
      split_ifs <;> rfl
    · rfl

/-- The Receive Engine's part of a loss leaves everything but the receiving side and the latches. -/
theorem Channel.rxLoss_eq (ch : Channel) :
    ch.rxLoss = { ch with rx := ch.rxLoss.rx, latches := ch.rxLoss.latches } := by
  unfold Channel.rxLoss Channel.closeBroken
  cases hopen : ch.rx.openRecord with
  | none =>
    rw [Channel.closeOpen_none ch _ _ hopen]
    rfl
  | some r =>
    rw [Channel.closeOpen_some ch _ _ hopen]
    rfl

/-- What a highway loss keeps and changes on a channel (01 R16). -/
theorem Channel.loseHighway_lossOn (ch : Channel) : LossOn ch ch.loseHighway := by
  have hrx : RxLossOn ch ch.cutTx.rxLoss := by
    have h := Channel.rxLoss_rxLossOn ch.cutTx
    rw [ch.cutTx_eq] at h ⊢
    exact h
  have hcut : ch.cutTx.rxLoss =
      { ch with tx := ch.cutTx.tx, rx := ch.cutTx.rxLoss.rx, latches := ch.cutTx.rxLoss.latches } := by
    rw [Channel.rxLoss_eq, ch.cutTx_eq]
  unfold Channel.loseHighway
  dsimp only
  refine ⟨?_, ?_, ?_, ?_, ?_, ?_, ?_, ?_, ?_, hrx, ?_⟩
  iterate 7 rw [hcut]
  · rw [hcut]; rfl
  · rw [hcut]; rfl
  · have htx := ch.cutTx_txLossOn
    unfold TxLossOn at htx ⊢
    rw [hcut]
    exact htx

/-! ### A highway loss of the part (01 R16) -/

/-- The shared operation is the loss that `LossTo` spells out. -/
theorem State.loseHighway_lossTo (s : State) (dest : Sync) (pulse : Option Nat) :
    LossTo dest pulse s (s.loseHighway dest pulse) := by
  refine ⟨rfl, rfl, rfl, rfl, rfl, rfl, rfl, rfl, fun c => ?_⟩
  unfold State.loseHighway
  rw [State.chan_mapChans]
  exact (s.chan c).loseHighway_lossOn

/-- The loss stands when the command ends (10 R158) and its result is stored (11 R169). -/
theorem LossTo.finish {dest : Sync} {pulse : Option Nat} {a b : State} (h : LossTo dest pulse a b) :
    LossTo dest pulse a b.evaluate := h

theorem LossTo.setDeviceResult {dest : Sync} {pulse : Option Nat} {a b : State} (h : LossTo dest pulse a b)
    (r : CmdResult) : LossTo dest pulse a (b.setDeviceResult r) := h

/-- A device event raised before the loss is no part of it. -/
theorem LossTo.of_raise {dest : Sync} {pulse : Option Nat} {a b : State} {e : DevEvent}
    (h : LossTo dest pulse (a.raise e) b) : LossTo dest pulse a b := h

end Sys2Proof.Machine
end

section
/-! SUPPORT. START, STOP, the highway losses, acquisition and the frames of a Follower (01 R7 to R16). -/

namespace Sys2Proof.Machine

-- One theorem after another, as in the tests: many at once ask for more threads than there are.
set_option Elab.async false

/-! ### The reset state -/

@[simp] theorem State.reset_chan (c : Chan) : State.reset.chan c = Channel.reset := by
  simp [State.chan, State.reset]

/-- Both banks are Unused at reset. -/
theorem txControlCount_unused (n : Nat) : txControlCount (Vector.replicate 64 .unused) n = 0 := by
  simp [txControlCount]

/-- Settles O5: each invariant holds of the reset channel and the reset blocks. -/
theorem resetMeetsTheInvariants : Obligations.ResetMeetsTheInvariants := by
  unfold Obligations.ResetMeetsTheInvariants
  refine ⟨?_, reset_memory_wf, ?_, ?_, ?_, ?_, ?_, ?_, ?_, ?_, ?_, ?_⟩
  · -- Events: no level, no enable, no latch.
    refine ⟨by decide, fun c => ?_, fun c => ?_, fun c => ?_, ?_⟩
    · simp only [State.reset_chan]
      simp [State.reset, EventUnit.reset, Channel.rxReadyNow, Channel.reset, ChanConfig.reset]
    · simp only [State.reset_chan]
      simp [State.reset, EventUnit.reset, Channel.txSpaceNow, Channel.reset, ChanConfig.reset]
    · simp only [State.reset_chan]
      simp [State.reset, EventUnit.reset, Channel.reset, ChanConfig.reset]
    · simp [State.reset, EventUnit.reset]
  · -- Reservations: no message is listed.
    refine ⟨?_, by decide⟩
    unfold State.listed
    simp only [State.reset_chan]
    decide
  · intro c
    rw [State.reset_chan]
    decide
  · intro c h
    rw [State.reset_chan] at h
    cases h
  · intro c h
    rw [State.reset_chan] at h
    exact absurd rfl h
  · exact ⟨List.nodup_nil, fun e he => absurd he List.not_mem_nil⟩
  · exact ⟨Nat.le_refl 8, (txControlCount_unused 8).le.trans (Nat.zero_le 1),
      fun h => absurd h (by decide), fun h => absurd rfl h⟩
  · intro c
    rw [State.reset_chan]
    decide
  · intro c
    rw [State.reset_chan]
    decide
  · intro c
    rw [State.reset_chan]
    decide
  · exact .of_still rfl rfl

/-! ### START and STOP (01 R10, R11) -/

/-- Settles O30: the two roles in OFF, and the refusal elsewhere. -/
theorem startStartsTheHighway : Obligations.StartStartsTheHighway := by
  unfold Obligations.StartStartsTheHighway
  intro s hlive
  refine ⟨fun hoff hrole => (whenLive_live _ hlive).trans ?_, fun hoff hrole => (whenLive_live _ hlive).trans ?_,
    fun hon => (whenLive_live _ hlive).trans ?_⟩
  · rw [hoff]
    simp only [State.startHighway, hrole]
    rfl
  · rw [hoff]
    simp only [State.startHighway, hrole]
    rfl
  · cases hsync : s.hwi.sync
    case off => exact absurd hsync hon
    all_goals rfl

/-- Settles O31: by sync state; outside OFF and ACQUIRE it is the shared loss after the steps that are due. -/
theorem stopStopsTheHighway : Obligations.StopStopsTheHighway := by
  unfold Obligations.StopStopsTheHighway
  intro s hlive
  refine ⟨fun hoff => (whenLive_live _ hlive).trans (by rw [hoff]; rfl),
    fun hacq => (whenLive_live _ hlive).trans (by rw [hacq]; rfl), fun hrun => ?_⟩
  have hstop : exec .stop s = finishDevice (s.takeDue.loseHighway .off none) .done := by
    refine (whenLive_live _ hlive).trans ?_
    rcases hrun with h | h <;> rw [h]
  obtain ⟨-, hhost, -⟩ := s.takeDue_frame
  have hdue := s.takeDue_dueFrame
  have hquiet := State.takeDue_of_quiet (s := s)
  generalize s.takeDue = t at hstop hhost hdue hquiet ⊢
  refine ⟨_, hstop, (t.loseHighway_lossTo .off none).setDeviceResult .done, ?_, rfl, hdue, hquiet⟩
  exact congrArg (fun h : HostPort => { h with deviceResult := .done }) hhost

/-! ### Losses by HSYNC pulses and by a Master clash (01 R13 to R15) -/

/-- A bit clock that does not follow the last asserted one directly begins a pulse (01 R1). -/
theorem Highway.pulseAt_iff (h : Highway) (k : Nat) :
    h.pulseAt k = true ↔ ∀ a, h.hsyncBit = some a → a + 1 < k := by
  cases hb : h.hsyncBit <;> simp [Highway.pulseAt, hb]

/-- The next bit clock after an asserted one finds HSYNC held (01 R1). -/
theorem Highway.heldAt_iff (h : Highway) (k : Nat) : h.heldAt k = true ↔ ∃ a, h.hsyncBit = some a ∧ k = a + 1 := by
  cases hb : h.hsyncBit <;> simp [Highway.heldAt, hb]

/-- HSYNC is not both held and pulsed. -/
theorem Highway.pulseAt_of_held {h : Highway} {a : Nat} (ha : h.hsyncBit = some a) : h.pulseAt (a + 1) = false := by
  simp [Highway.pulseAt, ha]

/-- A loss by HSYNC pulses, in the words of `LossTo`: the miss is counted first and LockLost raised. -/
theorem State.loseLock_lossTo (s : State) (pulse : Option Nat) :
    LossTo .acquire pulse (s.countHw .syncMisses) (s.loseLock pulse).evaluate :=
  (State.loseHighway_lossTo _ .acquire pulse).of_raise.finish

/-- A Master clash in slot 0, in the words of `LossTo`: the clash is counted first, LineError and MasterConflict
raised. -/
theorem State.masterConflict_lossTo (s : State) :
    LossTo .off none (s.countHw .clashes) s.masterConflict.evaluate :=
  (State.loseHighway_lossTo _ .off none).of_raise.of_raise.finish

/-- Settles O32: the losses by pulses through `loseLock`, the Master's through `masterConflict`. -/
theorem highwayLossIsHandedToTheBlocks : Obligations.HighwayLossIsHandedToTheBlocks := by
  unfold Obligations.HighwayLossIsHandedToTheBlocks
  intro s hlive hquiet
  have hdue := State.takeDue_of_quiet hquiet
  refine ⟨fun hrole hsync hbetween => ?_, fun bit hrole hsync hpos hlt hpulse => ?_,
    fun line hrole hsync hpos hclash => ?_⟩
  · have hexec : exec .holdoverMiss s = finish (s.loseLock none) := by
      refine (whenLive_live _ hlive).trans ?_
      rw [if_pos ⟨hrole, hsync, hbetween⟩, hdue]
    exact ⟨_, hexec, s.loseLock_lossTo none, rfl, rfl⟩
  · have hexec : exec (.misplacedPulse bit) s =
        finish ((s.noteHsync (s.hwi.frameBit + bit)).loseLock (some (s.hwi.frameBit + bit))) := by
      refine (whenLive_live _ hlive).trans ?_
      dsimp only
      rw [if_pos ⟨s.hwi.followerRuns_iff.mpr ⟨hrole, hsync⟩, hpos, hlt⟩,
        if_pos ((s.hwi.pulseAt_iff _).mpr hpulse), hdue]
    exact ⟨_, hexec, State.loseLock_lossTo _ _, rfl, rfl⟩
  · have hexec : exec (.masterHeaderSlot line) s = finish s.masterConflict := by
      refine (whenLive_live _ hlive).trans ?_
      rw [if_pos ⟨s.hwi.masterRuns_iff.mpr ⟨hrole, hsync⟩, .inl hpos⟩, hdue]
      have hframe : s.inMasterFrame = s := if_pos hpos
      rw [hframe]
      exact if_pos (by simpa [clashed] using hclash)
    exact ⟨_, hexec, s.masterConflict_lossTo, rfl, rfl⟩

end Sys2Proof.Machine
end

section
/-! SUPPORT. Acquisition, the frames of a Follower and the end of slot 0 (01 R7 to R9, R12 to R14). -/

namespace Sys2Proof.Machine

-- One theorem after another, as in the tests: many at once ask for more threads than there are.
set_option Elab.async false

/-! ### Headers (01 R8) -/

theorem validHeader_eq_some {line : SlotBits} {p : Word} :
    validHeader line = some p ↔ receive line = .word .header p := by
  unfold validHeader
  split
  · rename_i q h
    rw [h]
    simp
  · rename_i h
    simp only [reduceCtorEq, false_iff]
    exact h p

theorem validHeader_eq_none {line : SlotBits} : validHeader line = none ↔ ∀ p, receive line ≠ .word .header p := by
  rw [Option.eq_none_iff_forall_ne_some]
  exact forall_congr' fun p => not_congr validHeader_eq_some

/-- A valid Header of the frame's own number changes nothing (01 R8). -/
theorem State.checkHeader_match {s : State} {line : SlotBits} (h : receive line = .word .header s.hwi.frame) :
    s.checkHeader line = s := by
  unfold State.checkHeader
  rw [validHeader_eq_some.mpr h]
  exact if_pos rfl

/-- A valid Header of another number is adopted, with FrameSlips and FrameSlip (01 R8). -/
theorem State.checkHeader_slip {s : State} {line : SlotBits} {p : Word} (h : receive line = .word .header p)
    (hp : p ≠ s.hwi.frame) :
    s.checkHeader line = ({ s with hwi := { s.hwi with frame := p } }.countHw .frameSlips).raise .frameSlip := by
  unfold State.checkHeader
  rw [validHeader_eq_some.mpr h]
  exact if_neg hp

/-- Without a valid Header the number is kept, with HeaderFaults and LineError (01 R8). -/
theorem State.checkHeader_fault {s : State} {line : SlotBits} (h : ∀ p, receive line ≠ .word .header p) :
    s.checkHeader line = s.lineFault .headerFaults := by
  unfold State.checkHeader
  rw [validHeader_eq_none.mpr h]

/-! ### Acquisition (01 R12) -/

/-- A pulse opens a candidate frame exactly one frame after the last, when no candidate is read. -/
theorem opensCandidate_iff (candidate : Bool) (lastPulse : Option Nat) (k length : Nat) :
    (!candidate && lastPulse.any (fun last => k == last + length)) = true ↔
      candidate = false ∧ ∃ last, lastPulse = some last ∧ k = last + length := by
  cases lastPulse <;> simp

/-- A pulse in ACQUIRE is recorded, and opens a candidate frame or not. -/
theorem exec_acquirePulse {s : State} {k : Nat} (hlive : s.resetPin = false) (hacq : s.hwi.sync = .acquire)
    (hpulse : s.hwi.pulseAt k = true) :
    exec (.acquirePulse k) s = .next (State.evaluate { s with hwi := { s.hwi with
      lastPulse := some k
      hsyncBit := some k
      candidate := !s.hwi.candidate && s.hwi.lastPulse.any (fun last => k == last + 20 * s.slots) } }) := by
  refine (whenLive_live _ hlive).trans ?_
  rw [if_pos hacq, if_pos hpulse]
  rfl

/-- HSYNC still held in ACQUIRE is recorded as held. -/
theorem exec_acquirePulse_held {s : State} {a : Nat} (hlive : s.resetPin = false) (hacq : s.hwi.sync = .acquire)
    (ha : s.hwi.hsyncBit = some a) : exec (.acquirePulse (a + 1)) s = finish (s.noteHsync (a + 1)) := by
  refine (whenLive_live _ hlive).trans ?_
  rw [if_pos hacq, if_neg (by rw [Highway.pulseAt_of_held ha]; decide),
    if_pos ((s.hwi.heldAt_iff _).mpr ⟨a, ha, rfl⟩)]

/-- The Header slot of a candidate frame locks the Follower, or ends the candidate. -/
theorem exec_candidateHeader {s : State} (line : SlotBits) (hlive : s.resetPin = false) (hquiet : s.quiet = true)
    (hacq : s.hwi.sync = .acquire) (hcand : s.hwi.candidate = true) :
    exec (.candidateHeader line) s =
      ((validHeader line).map s.lockOn).elim (finish { s with hwi := { s.hwi with candidate := false } }) finish := by
  refine (whenLive_live _ hlive).trans ?_
  rw [if_pos ⟨hacq, hcand⟩, State.takeDue_of_quiet hquiet]
  cases validHeader line <;> rfl

/-! ### Frames of a Follower (01 R13, R14) -/

/-- The frame begins on the pulse at the expected bit, in LOCKED. -/
theorem exec_pulseAtExpectedBit {s : State} (hlive : s.resetPin = false) (hquiet : s.quiet = true)
    (hruns : s.hwi.followerRuns = true) (hbetween : s.hwi.betweenSlots = true)
    (hpulse : s.hwi.pulseAt s.hwi.expectedBit = true) :
    exec .pulseAtExpectedBit s =
      finish { s with hwi := { s.hwi with sync := .locked } }.beginFrameOnPulse := by
  refine (whenLive_live _ hlive).trans ?_
  rw [if_pos ⟨hruns, hbetween⟩, if_pos hpulse, State.takeDue_of_quiet hquiet]

/-- HSYNC held at the expected bit is recorded as held. -/
theorem exec_pulseAtExpectedBit_held {s : State} {a : Nat} (hlive : s.resetPin = false) (hquiet : s.quiet = true)
    (hruns : s.hwi.followerRuns = true) (hbetween : s.hwi.betweenSlots = true) (ha : s.hwi.hsyncBit = some a)
    (hbit : a + 1 = s.hwi.expectedBit) : exec .pulseAtExpectedBit s = finish (s.noteHsync (a + 1)) := by
  refine (whenLive_live _ hlive).trans ?_
  rw [if_pos ⟨hruns, hbetween⟩, State.takeDue_of_quiet hquiet, ← hbit,
    if_neg (by rw [Highway.pulseAt_of_held ha]; decide), if_pos ((s.hwi.heldAt_iff _).mpr ⟨a, ha, rfl⟩)]

/-- Settles O50: acquisition, the frames on the pulse and without it, and HSYNC held. -/
theorem followerKeepsLock : Obligations.FollowerKeepsLock := by
  unfold Obligations.FollowerKeepsLock
  refine ⟨fun s hlive hacq => ⟨fun k hpulse => ?_, fun a ha => exec_acquirePulse_held hlive hacq ha,
    fun hquiet hcand => ⟨fun line p hp => ?_, fun line hno => ?_⟩⟩,
    fun s hlive hquiet hrole hbetween => ⟨fun hlocked => ?_, fun hsync => ?_⟩,
    fun s bit a hlive hquiet hrole hsync hpos hlt ha hbit => ?_⟩
  · have hexec := exec_acquirePulse hlive hacq ((s.hwi.pulseAt_iff k).mpr hpulse)
    have hopens := opensCandidate_iff s.hwi.candidate s.hwi.lastPulse k (20 * s.slots)
    refine ⟨fun h => ?_, fun h => ?_⟩
    · rw [hexec, hopens.mpr h]
    · rw [hexec, Bool.eq_false_iff.mpr fun ho => h (hopens.mp ho)]
  · rw [exec_candidateHeader line hlive hquiet hacq hcand, validHeader_eq_some.mpr hp]
    rfl
  · rw [exec_candidateHeader line hlive hquiet hacq hcand, validHeader_eq_none.mpr hno]
    rfl
  · refine (whenLive_live _ hlive).trans ?_
    rw [if_pos ⟨hrole, hlocked, hbetween⟩, State.takeDue_of_quiet hquiet]
    rfl
  · have hruns := s.hwi.followerRuns_iff.mpr ⟨hrole, hsync⟩
    exact ⟨fun hpulse => exec_pulseAtExpectedBit hlive hquiet hruns hbetween ((s.hwi.pulseAt_iff _).mpr hpulse),
      fun a ha hbit => exec_pulseAtExpectedBit_held hlive hquiet hruns hbetween ha hbit⟩
  · refine (whenLive_live _ hlive).trans ?_
    dsimp only
    rw [if_pos ⟨s.hwi.followerRuns_iff.mpr ⟨hrole, hsync⟩, hpos, hlt⟩, State.takeDue_of_quiet hquiet, ← hbit,
      if_neg (by rw [Highway.pulseAt_of_held ha]; decide), if_pos ((s.hwi.heldAt_iff _).mpr ⟨a, ha, rfl⟩)]
    rfl

/-! ### The end of slot 0 (01 R7 to R9) -/

/-- A Follower's slot 0 ends with the check of its Header and the frame start. -/
theorem exec_followerHeaderSlot {s : State} (line : SlotBits) (hlive : s.resetPin = false) (hquiet : s.quiet = true)
    (hready : s.hwi.followerHeaderReady = true) :
    exec (.followerHeaderSlot line) s = finish (s.inFollowerFrame.checkHeader line).frameStart := by
  refine (whenLive_live _ hlive).trans ?_
  rw [if_pos hready, State.takeDue_of_quiet hquiet]

/-- A Master's slot 0 ends with the frame start, or with a conflict. -/
theorem exec_masterHeaderSlot {s : State} (line : SlotBits) (hlive : s.resetPin = false) (hquiet : s.quiet = true)
    (hruns : s.hwi.masterRuns = true) (hpos : s.hwi.position = .header ∨ s.hwi.betweenSlots = true) :
    exec (.masterHeaderSlot line) s =
      if clashed (slotWord .header s.inMasterFrame.hwi.frame) line then finish s.inMasterFrame.masterConflict
      else finish s.inMasterFrame.frameStart := by
  refine (whenLive_live _ hlive).trans ?_
  rw [if_pos ⟨hruns, hpos⟩, State.takeDue_of_quiet hquiet]

/-- Slot 0 in progress is ready to end for a Follower that runs frames. -/
theorem Highway.followerHeaderReady_of_header {h : Highway} (hruns : h.followerRuns = true)
    (hpos : h.position = .header) : h.followerHeaderReady = true := by
  simp [Highway.followerHeaderReady, hruns, hpos]

/-- Between slots no slot 0 is in progress. -/
theorem Highway.not_header_of_between {h : Highway} (hb : h.betweenSlots = true) : h.position ≠ .header := by
  obtain ⟨-, last, hlast⟩ := h.betweenSlots_iff.mp hb
  rw [hlast]
  exact SlotPosition.noConfusion

/-- The head message has a word to send and no credit for it (06 R107). -/
theorem Channel.starved_iff (ch : Channel) :
    ch.starved = true ↔ ∃ m rest, ch.tx.messages = m :: rest ∧ m.sent < m.length ∧
      (ch.credits.wordHeard = ch.credits.wordUsed ∨ (m.sent = 0 ∧ ch.credits.msgHeard = ch.credits.msgUsed)) := by
  have hzero : ∀ a b : BitVec 5, (a - b).toNat = 0 ↔ a = b := by decide
  have hmsgs : ch.credits.availableMsgs = 0 ↔ (ch.credits.msgHeard - ch.credits.msgUsed).toNat = 0 := by
    unfold Credits.availableMsgs
    omega
  cases hm : ch.tx.messages with
  | nil => simp [Channel.starved, hm]
  | cons m rest =>
    simp only [Channel.starved, hm, Bool.and_eq_true, Bool.or_eq_true, decide_eq_true_eq, beq_iff_eq, hmsgs,
      Credits.availableWords, hzero, List.cons.injEq]
    exact ⟨fun h => ⟨m, rest, ⟨rfl, rfl⟩, h⟩, by rintro ⟨_, _, ⟨rfl, rfl⟩, h⟩; exact h⟩

/-- The frame start, field by field (01 R9). -/
theorem State.frameStart_eq (s : State) :
    s.frameStart =
      { s with
        hwi := { s.hwi with position := .served 0 }
        map := { s.map with dueFrame := if s.map.target = none then none else some s.hwi.frame }
        lnk := { s.lnk with refreshCount := if s.lnk.refreshInterval = 0 then 0 else s.lnk.refreshCount + 1 }
        chans := s.chans.map Channel.countFrame } := by
  cases ht : s.map.target <;> simp [State.frameStart, ht, State.mapChans, LinkControl.countFrame]

/-- Settles O51: slot 0 by role and Header, a frame that begins with its header slot, and the frame start. -/
theorem headerSlotGivesTheFrameStart : Obligations.HeaderSlotGivesTheFrameStart := by
  unfold Obligations.HeaderSlotGivesTheFrameStart
  refine ⟨fun s line hlive hquiet => ⟨fun hrole hsync hpos => ?_, fun hrole hsync hpos => ?_,
    fun hbetween => ⟨rfl, fun hruns hsync hpulse => ?_, fun hruns => ?_⟩⟩, fun s => ⟨s.frameStart_eq, fun ch => ?_⟩⟩
  · have hruns := s.hwi.followerRuns_iff.mpr ⟨hrole, hsync⟩
    have hframe : s.inFollowerFrame = s := if_pos hpos
    have hexec := exec_followerHeaderSlot line hlive hquiet (Highway.followerHeaderReady_of_header hruns hpos)
    rw [hframe] at hexec
    refine ⟨fun h => ?_, fun p h hp => ?_, fun h => ?_⟩
    · rw [hexec, State.checkHeader_match h]
      rfl
    · rw [hexec, State.checkHeader_slip h hp]
      rfl
    · rw [hexec, State.checkHeader_fault h]
      rfl
  · have hruns := s.hwi.masterRuns_iff.mpr ⟨hrole, hsync⟩
    have hframe : s.inMasterFrame = s := if_pos hpos
    refine ⟨if_pos ⟨hruns, hpos⟩, fun hclean => ?_⟩
    rw [exec_masterHeaderSlot line hlive hquiet hruns (.inl hpos), hframe]
    exact if_neg (by simpa [clashed] using hclean)
  · -- The Follower's frame begins on the pulse, with the header-slot command or before it.
    have hbegun : s.inFollowerFrame = (s.noteHsync s.hwi.expectedBit).beginFrame :=
      if_neg (Highway.not_header_of_between hbetween)
    have hready : s.hwi.followerHeaderReady = true := by
      simp [Highway.followerHeaderReady, hruns, hsync, hbetween, (s.hwi.pulseAt_iff s.hwi.expectedBit).mpr hpulse]
    have hready' : (s.noteHsync s.hwi.expectedBit).beginFrame.hwi.followerHeaderReady = true :=
      Highway.followerHeaderReady_of_header hruns rfl
    have hquiet' : (s.noteHsync s.hwi.expectedBit).beginFrame.quiet = true := hquiet
    have hframe : (s.noteHsync s.hwi.expectedBit).beginFrame.inFollowerFrame =
      (s.noteHsync s.hwi.expectedBit).beginFrame := if_pos rfl
    rw [exec_followerHeaderSlot line hlive hquiet hready, hbegun]
    refine Eq.trans ?_ (exec_followerHeaderSlot line (s := (s.noteHsync s.hwi.expectedBit).beginFrame) hlive hquiet'
      hready').symm
    rw [hframe]
  · have hbegun : s.inMasterFrame = s.beginFrame := if_neg (Highway.not_header_of_between hbetween)
    have hframe : s.beginFrame.inMasterFrame = s.beginFrame := if_pos rfl
    rw [exec_masterHeaderSlot line hlive hquiet hruns (.inr hbetween), hbegun,
      exec_masterHeaderSlot (s := s.beginFrame) line hlive hquiet hruns (.inl rfl), hframe]
  · refine ⟨_, _, rfl, fun h => by rw [h]; rfl, fun n h => by rw [h]; rfl, fun h => by rw [h]; rfl,
      fun n h => ⟨fun hstarved => ?_, fun hfed => ?_⟩⟩
    · rw [h, Option.map_some, if_pos (ch.starved_iff.mpr hstarved)]
    · rw [h, Option.map_some, if_neg fun hs => hfed (ch.starved_iff.mp hs)]

end Sys2Proof.Machine
end

section
/-! SUPPORT. The reports of sent words and the disposal of received ones (01 R5, R6, 02 R24, 07 R115, R116, 08 R130). -/

namespace Sys2Proof.Machine

-- One theorem after another, as in the tests: many at once ask for more threads than there are.
set_option Elab.async false

/-! ### The report of a credit channel's word (07 R115, R116) -/

/-- The end of a slot, field by field (01 R5). -/
theorem State.endLine_eq (s : State) (clash : Bool) :
    s.endLine clash = { s with
      hwi := { s.hwi with
        line := none
        counters := if clash then s.hwi.counters.set 1 (advance s.hwi.counters[1]) else s.hwi.counters }
      evu := { s.evu with
        latches := if clash then s.evu.latches ||| BitVec.twoPow 7 6 else s.evu.latches } } := by
  cases clash <;> rfl

/-- A clash is a 1 driven and a 0 read (01 R5). -/
theorem clashed_eq {driven read : SlotBits} {clash : Bool} (h : clash = true ↔ driven &&& ~~~read ≠ 0) :
    clashed driven read = clash := by
  rw [Bool.eq_iff_iff, h]
  simp [clashed]

/-- The report of a credit channel's word ends the slot and settles the word. -/
theorem exec_txdataReport_credit {s : State} {c : Chan} {bits line : SlotBits} (hlive : s.resetPin = false)
    (hline : s.hwi.line = some ⟨bits, .creditData c⟩) :
    exec (.txdataReport line) s =
      finish ((s.endLine (clashed bits line)).reportCredit c (clashed bits line)) := by
  refine (whenLive_live _ hlive).trans ?_
  rw [hline]

/-- A report that finds the word gone clears the note of it alone. -/
theorem State.reportCredit_gone {s : State} {c : Chan} (clash : Bool)
    (h : (s.chan c).tx.onLine = false ∨ (s.chan c).tx.messages = []) :
    s.reportCredit c clash = s.setChan c { s.chan c with tx := { (s.chan c).tx with onLine := false } } := by
  unfold State.reportCredit
  dsimp only
  split
  · rename_i hon hcons
    rcases h with h | h
    · rw [h] at hon
      cases hon
    · rw [h] at hcons
      cases hcons
  · rfl

/-- The credits after a word of message `m` is paid for (06 R103). -/
def Credits.paidFor (k : Credits) (m : TxMessage) : Credits :=
  { k with wordUsed := k.wordUsed + 1, msgUsed := if m.sent = 0 then k.msgUsed + 1 else k.msgUsed }

/-- The payment of a word is the shared operation's. -/
theorem Channel.spend_eq (ch : Channel) (m : TxMessage) :
    ch.spend (m.sent == 0) = { ch with credits := ch.credits.paidFor m } := by
  simp [Channel.spend, Credits.paidFor]

/-- A report before the last word pays for the word and advances the head. -/
theorem State.reportCredit_more {s : State} {c : Chan} (clash : Bool) {m : TxMessage} {rest : List TxMessage}
    (hon : (s.chan c).tx.onLine = true) (hcons : (s.chan c).tx.messages = m :: rest)
    (hmore : m.sent + 1 ≠ m.length) :
    s.reportCredit c clash = s.setChan c { s.chan c with
      credits := (s.chan c).credits.paidFor m
      probe := if m.sent = 0 then (s.chan c).probe.map (fun _ => 0) else (s.chan c).probe
      tx := { (s.chan c).tx with
        onLine := false
        messages := { m with sent := m.sent + 1, clashed := m.clashed || clash } :: rest } } := by
  unfold State.reportCredit
  dsimp only
  rw [hon, hcons]
  dsimp only
  rw [if_neg hmore, Channel.spend_eq]
  split <;> rfl

/-- The report of the last word pays for it as well, makes the entry, and frees the words of the message. -/
theorem State.reportCredit_last {s : State} {c : Chan} (clash : Bool) {m : TxMessage} {rest : List TxMessage}
    (hon : (s.chan c).tx.onLine = true) (hcons : (s.chan c).tx.messages = m :: rest)
    (hlast : m.sent + 1 = m.length) :
    s.reportCredit c clash =
      (s.addCompletions [m.entry c (if m.clashed || clash then .clashed else .sent) s.hwi.frame]).setChan c
        { s.chan c with
          credits := (s.chan c).credits.paidFor m
          probe := (s.chan c).probe.map (fun _ => 0)
          tx := { (s.chan c).tx with
            onLine := false
            messages := rest
            free := ((s.chan c).tx.free + m.length) % (s.chan c).txRegion.capacity } } := by
  have htwice : ((s.chan c).probe.map (fun _ => 0)).map (fun _ => 0) = (s.chan c).probe.map (fun _ => 0) := by
    cases (s.chan c).probe <;> rfl
  unfold State.reportCredit
  dsimp only
  rw [hon, hcons]
  dsimp only
  rw [if_pos hlast, Channel.spend_eq]
  unfold Channel.dropHead Channel.resetProbe
  by_cases hfirst : m.sent = 0
  · rw [if_pos hfirst]
    dsimp only
    rw [htwice]
    rfl
  · rw [if_neg hfirst]
    rfl

/-- Settles O56: the report that finds the word gone, and the one that finds it, before and at the last word. -/
theorem creditReportSettlesTheWord : Obligations.CreditReportSettlesTheWord := by
  unfold Obligations.CreditReportSettlesTheWord
  intro s u c ch bits line clash hlive hline hch hclash hu
  subst hch
  have hended : s.endLine clash = u := (s.endLine_eq clash).trans hu.symm
  have hchan : u.chan c = s.chan c := by rw [hu]; rfl
  have hframe : u.hwi.frame = s.hwi.frame := by rw [hu]
  have hexec : exec (.txdataReport line) s = finish (u.reportCredit c clash) := by
    rw [exec_txdataReport_credit hlive hline, clashed_eq hclash, hended]
  refine ⟨fun hgone => ?_, fun m rest credits probe hon hcons hcredits hprobe => ⟨fun hmore => ?_, fun hlast => ?_⟩⟩
  · rw [hexec, State.reportCredit_gone clash (by rwa [hchan]), hchan]
    rfl
  · rw [hexec, State.reportCredit_more clash (by rwa [hchan]) (by rwa [hchan]) hmore, hchan, hcredits, hprobe]
    simp only [hmore, or_false]
    rfl
  · rw [hexec, State.reportCredit_last clash (by rwa [hchan]) (by rwa [hchan]) hlast, hchan, hcredits,
      hprobe.trans (if_pos (.inr hlast)), hframe]
    rfl

/-! ### The word of an RxData slot (01 R6, 08 R130, R131) -/

/-- A word of an RxData slot that is not stored outside the memory is screened and handed on. -/
theorem exec_rxdataWord {s : State} {n : Slot} {c : Chan} {line : SlotBits} (hlive : s.resetPin = false)
    (hquiet : s.quiet = true) (hready : s.slotReady n = true) (huse : s.entryOf n = .rxData c)
    (hin : (s.chan c).storesOutside s.hwi.frame (receive line) = false) :
    exec (.rxdataWord n line) s = finish (((s.enterSlot n).screen (receive line)).receiveData c (receive line)) := by
  refine (whenLive_live _ hlive).trans ?_
  rw [State.takeDue_of_quiet hquiet]
  dsimp only
  rw [hready, huse]
  dsimp only
  rw [if_neg (by rw [hin]; decide)]

/-- A word of an Unused slot is disposed of. -/
theorem exec_unusedSlotWord {s : State} {n : Slot} {line : SlotBits} (hlive : s.resetPin = false)
    (hquiet : s.quiet = true) (hready : s.slotReady n = true) (huse : s.entryOf n = .unused) :
    exec (.unusedSlotWord n line) s = finish ((s.enterSlot n).disposeUnused (receive line)) := by
  refine (whenLive_live _ hlive).trans ?_
  rw [State.takeDue_of_quiet hquiet, hready, huse]

/-- Only a data word of a receiving channel is stored. -/
theorem Channel.storesOutside_of_no_data (ch : Channel) (frame : Word) {k : Kind} {p : Word}
    (h : k.isData = false ∨ ch.receiving = false) : ch.storesOutside frame (.word k p) = false := by
  rcases h with h | h <;> simp [Channel.storesOutside, h]

/-- The data words are First, Middle, Last and Only (00 Table 3). -/
theorem Kind.isData_iff (k : Kind) : k.isData = true ↔ k = .first ∨ k = .middle ∨ k = .last ∨ k = .only := by
  cases k <;> simp [Kind.isData]

/-- A data word of an RxData slot: a Stray, or the receiving channel's. -/
theorem State.receiveData_data (s : State) (c : Chan) {k : Kind} (p : Word) (hk : k.isData = true) :
    s.receiveData c (.word k p) = if (s.chan c).receiving then s.takeData c k p else s.countHw .strays := by
  rcases k.isData_iff.mp hk with rfl | rfl | rfl | rfl <;> rfl

/-- A data word passes the screen. -/
theorem State.screen_data (s : State) {k : Kind} (p : Word) (hk : k.isData = true) : s.screen (.word k p) = s := by
  rcases k.isData_iff.mp hk with rfl | rfl | rfl | rfl <;> rfl

/-- A data word of an Unused slot is a Stray. -/
theorem State.disposeUnused_data (s : State) {k : Kind} (p : Word) (hk : k.isData = true) :
    s.disposeUnused (.word k p) = s.countHw .strays := by
  rcases k.isData_iff.mp hk with rfl | rfl | rfl | rfl <;> rfl

/-- A check error advances CheckErrors, raises LineError, and reaches a receiving channel alone. -/
theorem exec_rxdataWord_checkError {s : State} {n : Slot} {c : Chan} {line : SlotBits} (hlive : s.resetPin = false)
    (hquiet : s.quiet = true) (hready : s.slotReady n = true) (huse : s.entryOf n = .rxData c)
    (herr : receive line = .checkError) :
    exec (.rxdataWord n line) s = finish (if (s.chan c).receiving
      then ((s.enterSlot n).lineFault .checkErrors).setChan c (s.chan c).rxCheckError
      else (s.enterSlot n).lineFault .checkErrors) := by
  rw [exec_rxdataWord hlive hquiet hready huse (by rw [herr]; rfl), herr]
  rfl

/-- A check error of a credit channel counts one word while a word credit is outstanding (06 R101). -/
theorem Channel.creditCheckError_eq (ch : Channel) :
    ch.creditCheckError = (if ch.credits.outstandingWords = 0 then ch
      else { ch with credits := { ch.credits with wordCounted := ch.credits.wordCounted + 1 } }).damageOpen.grant := rfl

/-- What a stream channel makes of a data word before record assembly (08 R136 last case, R137). -/
theorem Channel.streamWord_cases (ch : Channel) (frame : Word) (k : Kind) :
    (ch.rxRegion.size = 0 → ch.streamWord frame k =
      ({ ch with counters := ch.counters.set 1 (advance ch.counters[1]) }, false)) ∧
    (ch.rxRegion.size ≠ 0 → ch.rx.discard = true → k.starts = false → ch.streamWord frame k =
      ({ ch with rx := { ch.rx with discard := !(k == .last) } }, false)) ∧
    (ch.rxRegion.size ≠ 0 → (ch.rx.discard = false ∨ k.starts = true) → ch.streamWord frame k =
      ({ ch with rx := { ch.rx with discard := false } } : Channel).assemble frame k) := by
  refine ⟨fun hsize => if_pos hsize, fun hsize hdiscard hrest => ?_, fun hsize hpass => ?_⟩
  · have hstays : ch = { ch with rx := { ch.rx with discard := true } } := by rw [← hdiscard]
    unfold Channel.streamWord
    rw [if_neg hsize, if_pos (by simp [hdiscard, hrest])]
    by_cases hlast : k = .last
    · simp [hlast, Channel.setDiscard]
    · simpa [hlast, beq_eq_false_iff_ne.mpr hlast] using hstays
  · unfold Channel.streamWord
    rw [if_neg hsize, if_neg (by rcases hpass with h | h <;> simp [h])]
    rfl

/-- Settles O58: by check, by kind, and by the receiving state of the slot's channel. -/
theorem receivedDataWordsAreDisposed : Obligations.ReceivedDataWordsAreDisposed := by
  unfold Obligations.ReceivedDataWordsAreDisposed
  refine ⟨fun s u n c ch line hlive hquiet hready huse hch hu => ?_, fun s u n line hlive hquiet hready huse hu => ?_⟩
  · subst hch
    have henter : s.enterSlot n = u := hu.symm
    have hchan : u.chan c = s.chan c := by rw [hu]; rfl
    -- A word that is no data word of a receiving channel is not stored.
    have hexec : ∀ k p, receive line = .word k p → (k.isData = false ∨ (s.chan c).receiving = false) →
        exec (.rxdataWord n line) s = finish ((u.screen (.word k p)).receiveData c (.word k p)) := by
      intro k p hword hno
      rw [exec_rxdataWord hlive hquiet hready huse
        (by rw [hword]; exact Channel.storesOutside_of_no_data _ _ hno), hword, henter]
    refine ⟨fun herr v hv => ?_, fun p hword => ?_, fun p hword => ?_, fun k p hword hk hidle => ?_,
      fun k p hword hk hrecv ch' stored hdata hin => ?_, fun k _ => Channel.streamWord_cases _ _ k⟩
    · have herror := exec_rxdataWord_checkError hlive hquiet hready huse herr
      have hfault : (s.enterSlot n).lineFault .checkErrors = v := by rw [henter, hv, hu]; rfl
      rw [hfault] at herror
      refine ⟨fun hr => ?_, fun hr hmode => ?_, fun hr hmode => ?_⟩
      · rw [herror, if_neg (by rw [hr]; decide)]
        rfl
      · rw [herror, if_pos hr]
        simp only [Channel.rxCheckError, hmode]
        rfl
      · rw [herror, if_pos hr, ← Channel.creditCheckError_eq]
        simp only [Channel.rxCheckError, hmode]
        rfl
    · rcases hword with hword | hword <;> exact hexec _ p hword (.inl rfl)
    · rcases hword with hword | hword <;>
        exact (hexec _ p hword (.inl rfl)).trans (by rw [hu]; rfl)
    · rw [hexec k p hword (.inr hidle), State.screen_data _ _ hk, State.receiveData_data _ _ _ hk, hchan,
        if_neg (by rw [hidle]; decide), hu]
      rfl
    · have hword' : (s.chan c).dataWord s.hwi.frame k = (ch', stored) := hdata
      have hinside : (s.chan c).storesOutside s.hwi.frame (receive line) = false := by
        rw [hword]
        cases stored
        · simp [Channel.storesOutside, hword']
        · have hbelow : ¬ Config.bufferWords ≤ (s.chan c).rxStoreAddr := Nat.not_le.mpr (hin rfl)
          simp [Channel.storesOutside, hbelow]
      have hframe : u.hwi.frame = s.hwi.frame := by rw [hu]
      rw [exec_rxdataWord hlive hquiet hready huse hinside, hword, henter, State.screen_data _ _ hk,
        State.receiveData_data _ _ _ hk, hchan, if_pos hrecv]
      unfold State.takeData
      rw [hchan, hframe]
      dsimp only
      rw [hword']
      cases stored
      · rw [hu]; rfl
      · rw [hu]; rfl
  · have henter : s.enterSlot n = u := hu.symm
    have hexec : exec (.unusedSlotWord n line) s = finish (u.disposeUnused (receive line)) := by
      rw [exec_unusedSlotWord hlive hquiet hready huse, henter]
    refine ⟨fun hdrop => ?_, fun k p hword hk => ?_, fun p hword => ?_⟩
    · rw [hexec]
      rcases hdrop with h | ⟨p, h | h | h⟩ <;> rw [h] <;> rfl
    · rw [hexec, hword, State.disposeUnused_data _ _ hk, hu]
      rfl
    · rw [hexec, hword, hu]
      rfl

end Sys2Proof.Machine
end

section
/-! SUPPORT. The settings of the register window and the reads of the table window (01 R2, 05 R94, 06 R108, 09 R154, 11
R171, Table 35). -/

namespace Sys2Proof.Machine

-- One theorem after another, as in the tests: many at once ask for more threads than there are.
set_option Elab.async false

/-! ### Settings (01 R2, 05 R94, 06 R108, 09 R154) -/

/-- A field of a word is 0 exactly when its number is. -/
theorem toNat_eq_zero_iff {n : Nat} (x : BitVec n) : x.toNat = 0 ↔ x = 0 :=
  ⟨fun h => BitVec.eq_of_toNat_eq (by simpa using h), fun h => by simp [h]⟩

/-- Settles O44: each write by its test, taken or refused. -/
theorem settingsAreChecked : Obligations.SettingsAreChecked := by
  unfold Obligations.SettingsAreChecked
  refine ⟨fun w s hlive => ⟨fun hoff => ⟨?_, ?_⟩, fun hon => ⟨?_, ?_⟩⟩,
    fun w s hlive => ⟨fun hzero => ⟨?_, ?_⟩, fun hpos => ⟨?_, ?_⟩, fun hrange => ?_, fun hout => ?_⟩⟩
  · exact (whenLive_live _ hlive).trans (if_pos hoff)
  · exact (whenLive_live _ hlive).trans (if_pos hoff)
  · exact (whenLive_live _ hlive).trans (if_neg hon)
  · exact (whenLive_live _ hlive).trans (if_neg hon)
  · exact (whenLive_live _ hlive).trans (if_pos ((toNat_eq_zero_iff _).mpr hzero))
  · exact (whenLive_live _ hlive).trans (if_pos ((toNat_eq_zero_iff _).mpr hzero))
  · exact (whenLive_live _ hlive).trans (if_neg fun h => hpos ((toNat_eq_zero_iff _).mp h))
  · exact (whenLive_live _ hlive).trans (if_neg fun h => hpos ((toNat_eq_zero_iff _).mp h))
  · exact (whenLive_live _ hlive).trans (if_pos hrange)
  · exact (whenLive_live _ hlive).trans (if_neg fun h => by omega)

/-! ### Table accesses (11 R171) -/

/-- An access to a table of the row acts and advances the index. -/
theorem tableAccess_taken {s act : State} {tables : List Nat} (hlive : s.resetPin = false)
    (h : s.host.table ∈ tables) : tableAccess s tables act = finish act.advanceIndex :=
  (whenLive_live _ hlive).trans (if_pos h)

/-! ### Words of the tables (11 Table 35) -/

/-- The channel of a word of a table of `k` words a channel. -/
theorem chanOfIndex_mul_add (c : Chan) {k r : Nat} (hr : r < k) : chanOfIndex (k * c.val + r) k = c := by
  have hdiv : (k * c.val + r) / k = c.val := by
    rw [Nat.mul_add_div (Nat.zero_lt_of_lt hr), Nat.div_eq_of_lt hr, Nat.add_zero]
  unfold chanOfIndex
  rw [hdiv]
  exact Fin.ofNat_val_eq_self c

/-- The pending bank is the one that is not active (02 R21). -/
theorem SlotMap.pendingBank_eq (m : SlotMap) :
    (m.active = .a → m.pendingBank = m.bankB) ∧ (m.active = .b → m.pendingBank = m.bankA) := by
  unfold SlotMap.pendingBank
  exact ⟨fun h => by rw [h]; rfl, fun h => by rw [h]; rfl⟩

/-- The active bank is the one that the selector names (02 R21). -/
theorem SlotMap.activeBank_eq (m : SlotMap) :
    (m.active = .a → m.activeBank = m.bankA) ∧ (m.active = .b → m.activeBank = m.bankB) := by
  unfold SlotMap.activeBank
  exact ⟨fun h => by rw [h]; rfl, fun h => by rw [h]; rfl⟩

/-- A map entry's word is its use code and argument (11 Table 35). -/
theorem MapUse.word_fields (u : MapUse) :
    (u = .unused → u.word = 0) ∧
    (∀ c : Chan, u = .txData c → u.word.toNat = 0x100 + c.val) ∧
    (∀ c : Chan, u = .rxData c → u.word.toNat = 0x200 + c.val) ∧
    (u = .txControl → u.word = 0x300) ∧
    (∀ p : Address, u = .rxControl p → u.word.toNat = 0x400 + p.toNat) := by
  refine ⟨fun h => by rw [h]; rfl, fun c h => ?_, fun c h => ?_, fun h => by rw [h]; rfl, fun p h => ?_⟩ <;> subst h <;>
    simp only [MapUse.word, BitVec.toNat_ofNat] <;> omega

/-- A region's word is its base and size. -/
theorem Region.toNat_word (r : Region) (hbase : r.base < 256) (hsize : r.size ≤ 64) :
    r.word.toNat = 256 * r.base + r.size := by
  simp only [Region.word, BitVec.toNat_ofNat]
  omega

/-- A vector behind zeros is the vector at a greater width. -/
theorem zero_append_eq_setWidth {m n : Nat} (x : BitVec n) : (0 : BitVec m) ++ x = x.setWidth (m + n) := by
  refine BitVec.eq_of_toNat_eq ?_
  have hlt : x.toNat < 2 ^ (m + n) := x.isLt.trans_le (Nat.pow_le_pow_right (by decide) (Nat.le_add_left n m))
  rw [BitVec.toNat_append, BitVec.toNat_setWidth, Nat.mod_eq_of_lt hlt]
  simp

section
variable (g : ChanConfig)

theorem ChanConfig.word_zero : g.word 0 = (0 : BitVec 6) ++ g.mode.code ++ g.peerStation ++ g.peerChannel := rfl
theorem ChanConfig.word_one :
    g.word 1 = (0 : BitVec 2) ++ g.notify.code ++ (0 : BitVec 3) ++ BitVec.ofNat 9 g.maxLength := rfl
theorem ChanConfig.word_two : g.word 2 = g.fillValue := rfl
theorem ChanConfig.word_three : g.word 3 = BitVec.ofNat 16 g.rxThreshold := rfl
theorem ChanConfig.word_four : g.word 4 = BitVec.ofNat 16 g.txThreshold := rfl
theorem ChanConfig.word_five : g.word 5 = g.enables.setWidth 16 := zero_append_eq_setWidth (m := 10) _

end

/-- Configuration word 0 is the mode, the peer station and the peer channel. -/
theorem ChanConfig.word_zero_fields (g : ChanConfig) :
    (g.word 0).extractLsb' 0 4 = g.peerChannel ∧ (g.word 0).extractLsb' 4 4 = g.peerStation ∧
      (g.word 0).extractLsb' 8 2 = g.mode.code := by
  rw [ChanConfig.word_zero]
  refine ⟨?_, ?_, ?_⟩ <;>
    repeat rw [BitVec.extractLsb'_append_eq_of_le (by decide)]
  all_goals rw [BitVec.extractLsb'_append_eq_of_add_le (by decide), BitVec.extractLsb'_eq_self]

/-- Configuration word 1 is the notify mode and the maximum length. -/
theorem ChanConfig.word_one_fields (g : ChanConfig) :
    (g.word 1).extractLsb' 0 9 = BitVec.ofNat 9 g.maxLength ∧ (g.word 1).extractLsb' 12 2 = g.notify.code := by
  rw [ChanConfig.word_one]
  refine ⟨?_, ?_⟩ <;>
    repeat rw [BitVec.extractLsb'_append_eq_of_le (by decide)]
  all_goals rw [BitVec.extractLsb'_append_eq_of_add_le (by decide), BitVec.extractLsb'_eq_self]

/-- The configuration words of channel `c` in table 3. -/
theorem State.tableWord_config (s : State) (c : Chan) {k : Nat} (hk : k < 6) :
    s.tableWord 3 (6 * c.val + k) = (s.chan c).config.word k := by
  unfold State.tableWord
  rw [chanOfIndex_mul_add c hk]
  congr 1
  omega

/-- Settles O48: the accesses through `tableAccess`, then the words of the tables. -/
theorem tableReadsReturnAndClear : Obligations.TableReadsReturnAndClear := by
  unfold Obligations.TableReadsReturnAndClear
  refine ⟨fun s next hlive hnext => ?_, fun s => ⟨fun i t u hu => ?_, fun c ch hch => ?_⟩⟩
  · subst hnext
    refine ⟨fun h => ?_, fun h => ?_, fun h => ?_, fun w h => ?_⟩
    · exact tableAccess_taken hlive (by simp; omega)
    · have hword : s.tableWord s.host.table s.host.index =
          ((s.chan (Fin.ofNat 16 (s.host.index / 6))).counters[Fin.ofNat 6 s.host.index]).setWidth 16 := by
        rw [h]
        rfl
      rw [← hword]
      exact tableAccess_taken hlive (by simp [h])
    · have hword : s.tableWord s.host.table s.host.index =
          (s.hwi.counters[Fin.ofNat 9 s.host.index]).setWidth 16 := by
        rw [h]
        rfl
      rw [← hword]
      exact tableAccess_taken hlive (by simp [h])
    · exact tableAccess_taken hlive (by simpa using h)
  · have hword : s.tableWord t i.val = u.word := by
      have hi : Fin.ofNat 64 i.val = i := Fin.ofNat_val_eq_self i
      obtain ⟨hpa, hpb⟩ := s.map.pendingBank_eq
      obtain ⟨haa, hab⟩ := s.map.activeBank_eq
      rcases hu with ⟨rfl, ⟨ha, rfl⟩ | ⟨hb, rfl⟩⟩ | ⟨rfl, ⟨ha, rfl⟩ | ⟨hb, rfl⟩⟩
      · simp only [State.tableWord, hi, hpa ha]
      · simp only [State.tableWord, hi, hpb hb]
      · simp only [State.tableWord, hi, haa ha]
      · simp only [State.tableWord, hi, hab hb]
    rw [hword]
    exact u.word_fields
  · subst hch
    obtain ⟨hpeerChannel, hpeerStation, hmode⟩ := (s.chan c).config.word_zero_fields
    obtain ⟨hlength, hnotify⟩ := (s.chan c).config.word_one_fields
    have hconfig : ∀ k, k < 6 → s.tableWord 3 (6 * c.val + k) = (s.chan c).config.word k :=
      fun k hk => s.tableWord_config c hk
    have hzero : s.tableWord 3 (6 * c.val) = (s.chan c).config.word 0 := hconfig 0 (by decide)
    rw [hzero, hconfig 1 (by decide), hconfig 2 (by decide), hconfig 3 (by decide), hconfig 4 (by decide),
      hconfig 5 (by decide)]
    refine ⟨fun hbase hsize => ?_, fun hbase hsize => ?_, hpeerChannel, hpeerStation, hmode, fun hmax => ?_, hnotify, rfl,
      fun hrx => ?_, fun htx => ?_, ?_⟩
    · have htable : s.tableWord 2 (2 * c.val) = (s.chan c).txRegion.word := by
        simp only [State.tableWord, Nat.mul_mod_right, if_true]
        rw [← Nat.add_zero (2 * c.val), chanOfIndex_mul_add c (by decide)]
      rw [htable, Region.toNat_word _ hbase hsize]
    · have htable : s.tableWord 2 (2 * c.val + 1) = (s.chan c).rxRegion.word := by
        simp only [State.tableWord, Nat.mul_add_mod]
        rw [chanOfIndex_mul_add c (by decide)]
        rfl
      rw [htable, Region.toNat_word _ hbase hsize]
    · rw [hlength, BitVec.toNat_ofNat]
      omega
    · rw [ChanConfig.word_three, BitVec.toNat_ofNat]
      omega
    · rw [ChanConfig.word_four, BitVec.toNat_ofNat]
      omega
    · exact ChanConfig.word_five _

end Sys2Proof.Machine
end

section
/-! SUPPORT. What the host reads (11 Tables 34 and 35): the fields of the registers, and a word taken read back. -/

namespace Sys2Proof.Machine

-- One theorem after another, as in the tests: many at once ask for more threads than there are.
set_option Elab.async false

/-! ### Fields and bits -/

/-- A flag stands alone in a field of one bit. -/
theorem getLsbD_of_field {n : Nat} {x : BitVec n} {i : Nat} {b : Bool} (h : x.extractLsb' i 1 = bit b) :
    x.getLsbD i = b := by
  have h0 : (x.extractLsb' i 1).getLsbD 0 = b := by rw [h]; cases b <;> rfl
  simpa using h0

/-- A number that fits is read from its field. -/
theorem toNat_of_field {n k m : Nat} {x : BitVec n} {i : Nat} (h : x.extractLsb' i k = BitVec.ofNat k m)
    (hm : m < 2 ^ k) : (x.extractLsb' i k).toNat = m := by
  rw [h, BitVec.toNat_ofNat, Nat.mod_eq_of_lt hm]

/-- The vector of a vector's number is that vector. -/
theorem ofNat_toNat_same {n : Nat} (x : BitVec n) : BitVec.ofNat n x.toNat = x := by
  rw [BitVec.ofNat_toNat, BitVec.setWidth_eq]

/-- Two numbers side by side in one word are their vectors in a row. -/
theorem ofNat_mul_add_toNat {m n : Nat} (x : BitVec m) (y : BitVec n) :
    BitVec.ofNat (m + n) (x.toNat * 2 ^ n + y.toNat) = x ++ y := by
  have hrow : (x ++ y).toNat = x.toNat * 2 ^ n + y.toNat := by
    rw [BitVec.toNat_append, ← Nat.shiftLeft_add_eq_or_of_lt y.isLt, Nat.shiftLeft_eq]
  rw [← hrow, ofNat_toNat_same]

/-! ### The fields of the registers (11 Table 34) -/

section
variable (s : State)

theorem State.readDstat_fields :
    s.readDstat.extractLsb' 0 2 = s.hwi.sync.code ∧ s.readDstat.extractLsb' 2 1 = s.hwi.role.code ∧
      s.readDstat.extractLsb' 3 1 = bit s.map.target.isSome ∧
      s.readDstat.extractLsb' 4 3 = s.host.deviceResult.code ∧
      s.readDstat.extractLsb' 8 6 = BitVec.ofNat 6 s.cq.entries.length := by
  unfold State.readDstat
  refine ⟨?_, ?_, ?_, ?_, ?_⟩ <;> repeat rw [BitVec.extractLsb'_append_eq_of_le (by decide)]
  all_goals rw [BitVec.extractLsb'_append_eq_of_add_le (by decide), BitVec.extractLsb'_eq_self]

theorem State.readMapstat_fields :
    s.readMapstat.extractLsb' 0 14 = (s.map.target.getD 0).extractLsb' 0 14 ∧
      s.readMapstat.extractLsb' 14 1 = bit s.map.target.isSome ∧
      s.readMapstat.extractLsb' 15 1 = s.map.active.code := by
  unfold State.readMapstat
  refine ⟨?_, ?_, ?_⟩
  · rw [BitVec.extractLsb'_append_eq_of_add_le (by decide), BitVec.extractLsb'_eq_self,
      BitVec.setWidth_eq_extractLsb' (by decide)]
  · rw [BitVec.extractLsb'_append_eq_of_le (by decide), BitVec.extractLsb'_append_eq_of_add_le (by decide),
      BitVec.extractLsb'_eq_self]
  · rw [BitVec.extractLsb'_append_eq_of_le (by decide), BitVec.extractLsb'_append_eq_of_le (by decide),
      BitVec.extractLsb'_eq_self]

/-- With no switch pending MAPSTAT shows the active bank alone. -/
theorem State.readMapstat_idle (h : s.map.target = none) : s.readMapstat.extractLsb' 0 15 = 0 := by
  unfold State.readMapstat
  rw [h]
  cases s.map.active <;> decide

theorem State.readCq0_fields {e : CqEntry} {rest : List CqEntry} (h : s.cq.entries = e :: rest) :
    s.readCq0.extractLsb' 0 9 = e.tag.extractLsb' 0 9 ∧ s.readCq0.extractLsb' 9 1 = bit e.restarted ∧
      s.readCq0.extractLsb' 10 2 = e.status.code ∧ s.readCq0.extractLsb' 12 4 = chanField e.chan := by
  have hword : s.readCq0 = chanField e.chan ++ e.status.code ++ bit e.restarted ++ e.tag.setWidth 9 := by
    unfold State.readCq0
    rw [h]
  rw [hword]
  refine ⟨?_, ?_, ?_, ?_⟩
  · rw [BitVec.extractLsb'_append_eq_of_add_le (by decide), BitVec.extractLsb'_eq_self,
      BitVec.setWidth_eq_extractLsb' (by decide)]
  · rw [BitVec.extractLsb'_append_eq_of_le (by decide), BitVec.extractLsb'_append_eq_of_add_le (by decide),
      BitVec.extractLsb'_eq_self]
  · rw [BitVec.extractLsb'_append_eq_of_le (by decide), BitVec.extractLsb'_append_eq_of_le (by decide),
      BitVec.extractLsb'_append_eq_of_add_le (by decide), BitVec.extractLsb'_eq_self]
  · rw [BitVec.extractLsb'_append_eq_of_le (by decide), BitVec.extractLsb'_append_eq_of_le (by decide),
      BitVec.extractLsb'_append_eq_of_le (by decide), BitVec.extractLsb'_eq_self]

theorem State.readCstat_fields :
    s.readCstat.extractLsb' 0 3 = s.selectedChan.link.state.code ∧
      s.readCstat.extractLsb' 4 3 = s.selectedChan.link.cause.code ∧
      s.readCstat.extractLsb' 8 3 = s.host.channelResult.code := by
  unfold State.readCstat
  refine ⟨?_, ?_, ?_⟩ <;> repeat rw [BitVec.extractLsb'_append_eq_of_le (by decide)]
  all_goals rw [BitVec.extractLsb'_append_eq_of_add_le (by decide), BitVec.extractLsb'_eq_self]

theorem State.readTxfree_fields :
    s.readTxfree.extractLsb' 0 11 = BitVec.ofNat 11 s.selectedChan.txFree ∧
      s.readTxfree.extractLsb' 11 4 = BitVec.ofNat 4 s.selectedChan.tx.messages.length := by
  unfold State.readTxfree
  refine ⟨?_, ?_⟩ <;> repeat rw [BitVec.extractLsb'_append_eq_of_le (by decide)]
  all_goals rw [BitVec.extractLsb'_append_eq_of_add_le (by decide), BitVec.extractLsb'_eq_self]

theorem State.readRxlen_fields {r : RxRecord} {rest : List RxRecord} (h : s.selectedChan.rx.records = r :: rest) :
    s.readRxlen.extractLsb' 0 9 = BitVec.ofNat 9 r.length ∧ s.readRxlen.extractLsb' 9 1 = bit r.complete ∧
      s.readRxlen.extractLsb' 10 5 = BitVec.ofNat 5 (rest.length + 1) := by
  have hword : s.readRxlen =
      (0 : BitVec 1) ++ BitVec.ofNat 5 (rest.length + 1) ++ bit r.complete ++ BitVec.ofNat 9 r.length := by
    unfold State.readRxlen
    rw [h]
  rw [hword]
  refine ⟨?_, ?_, ?_⟩ <;> repeat rw [BitVec.extractLsb'_append_eq_of_le (by decide)]
  all_goals rw [BitVec.extractLsb'_append_eq_of_add_le (by decide), BitVec.extractLsb'_eq_self]

theorem State.readRxflags_fields {r : RxRecord} {rest : List RxRecord} (h : s.selectedChan.rx.records = r :: rest) :
    s.readRxflags.extractLsb' 0 1 = bit r.flags.broken ∧ s.readRxflags.extractLsb' 1 1 = bit r.flags.damaged ∧
      s.readRxflags.extractLsb' 2 1 = bit r.flags.truncated ∧ s.readRxflags.extractLsb' 3 1 = bit r.flags.overrun ∧
      s.readRxflags.extractLsb' 4 1 = bit r.flags.aborted ∧ s.readRxflags.extractLsb' 5 1 = bit r.lastFrame.isSome ∧
      s.readRxflags.extractLsb' 6 9 = BitVec.ofNat 9 r.readPos := by
  have hword : s.readRxflags =
      (0 : BitVec 1) ++ BitVec.ofNat 9 r.readPos ++ bit r.lastFrame.isSome ++ bit r.flags.aborted ++
        bit r.flags.overrun ++ bit r.flags.truncated ++ bit r.flags.damaged ++ bit r.flags.broken := by
    unfold State.readRxflags
    rw [h]
  rw [hword]
  refine ⟨?_, ?_, ?_, ?_, ?_, ?_, ?_⟩ <;> repeat rw [BitVec.extractLsb'_append_eq_of_le (by decide)]
  all_goals rw [BitVec.extractLsb'_append_eq_of_add_le (by decide), BitVec.extractLsb'_eq_self]

/-- CRSTAT shows the view and two credits (11 R172). -/
theorem State.readCrstat_word :
    s.readCrstat = bit s.host.creditView ++ (0 : BitVec 2) ++
      BitVec.ofNat 5 (if s.selectedChan.creditConnected then
        (if s.host.creditView then s.selectedChan.credits.outstandingMsgs else s.selectedChan.credits.availableMsgs)
        else 0) ++ (0 : BitVec 3) ++
      BitVec.ofNat 5 (if s.selectedChan.creditConnected then
        (if s.host.creditView then s.selectedChan.credits.outstandingWords else s.selectedChan.credits.availableWords)
        else 0) := by
  unfold State.readCrstat
  cases s.selectedChan.creditConnected <;> cases s.host.creditView <;> rfl

theorem State.readCrstat_fields :
    s.readCrstat.extractLsb' 0 5 = BitVec.ofNat 5 (if s.selectedChan.creditConnected then
        (if s.host.creditView then s.selectedChan.credits.outstandingWords else s.selectedChan.credits.availableWords)
        else 0) ∧
      s.readCrstat.extractLsb' 8 5 = BitVec.ofNat 5 (if s.selectedChan.creditConnected then
        (if s.host.creditView then s.selectedChan.credits.outstandingMsgs else s.selectedChan.credits.availableMsgs)
        else 0) ∧
      s.readCrstat.extractLsb' 15 1 = bit s.host.creditView := by
  rw [State.readCrstat_word]
  refine ⟨?_, ?_, ?_⟩ <;> repeat rw [BitVec.extractLsb'_append_eq_of_le (by decide)]
  · rw [BitVec.extractLsb'_append_eq_of_add_le (by decide), BitVec.extractLsb'_eq_self]
  · rw [BitVec.extractLsb'_append_eq_of_add_le (by decide), BitVec.extractLsb'_eq_self]
  · rw [BitVec.extractLsb'_eq_self]

/-- Without credits CRSTAT shows the view alone (06 R109). -/
theorem State.readCrstat_idle (h : s.selectedChan.creditConnected = false) : s.readCrstat.extractLsb' 0 15 = 0 := by
  rw [State.readCrstat_word, h]
  simp only [Bool.false_eq_true, if_false]
  cases s.host.creditView <;> decide

end

/-- The six indications of a channel in CEVENT (11 Table 34). -/
theorem cevent_bits (latches : BitVec 4) (rxReady txSpace : Bool) :
    (∀ i : Fin 4, (cevent latches rxReady txSpace).getLsbD i.val = latches.getLsbD i.val) ∧
      (cevent latches rxReady txSpace).getLsbD 4 = rxReady ∧
      (cevent latches rxReady txSpace).getLsbD 5 = txSpace := by
  unfold cevent
  refine ⟨fun i => ?_, getLsbD_of_field ?_, getLsbD_of_field ?_⟩
  · rw [BitVec.getLsbD_append, if_pos i.isLt]
  · rw [BitVec.extractLsb'_append_eq_of_le (by decide), BitVec.extractLsb'_append_eq_of_add_le (by decide),
      BitVec.extractLsb'_eq_self]
  · rw [BitVec.extractLsb'_append_eq_of_le (by decide), BitVec.extractLsb'_append_eq_of_le (by decide),
      BitVec.extractLsb'_eq_self]

/-- The eight positions of DEVPEND (11 Table 34). -/
theorem EventUnit.devpend_bits (e : EventUnit) :
    (∀ i : Fin 7, e.devpend.getLsbD i.val = e.latches.getLsbD i.val) ∧ e.devpend.getLsbD 7 = e.cqReady := by
  unfold EventUnit.devpend
  refine ⟨fun i => ?_, getLsbD_of_field ?_⟩
  · rw [BitVec.getLsbD_append, if_pos i.isLt]
  · rw [BitVec.extractLsb'_append_eq_of_le (by decide), BitVec.extractLsb'_eq_self]

/-- A bit of a vector in a wider register. -/
theorem getLsbD_setWidth_of_lt {m n i : Nat} (x : BitVec m) (h : i < n) : (x.setWidth n).getLsbD i = x.getLsbD i := by
  simp [h]

/-! ### Fields of a written word in their places -/

/-- The low field of a word at full width is the word under a mask of ones. -/
theorem setWidth_low_field (w mask : Word) (n : Nat) (h : ∀ i : Fin 16, mask.getLsbD i.val = decide (i.val < n)) :
    (w.extractLsb' 0 n).setWidth 16 = w &&& mask := by
  refine BitVec.eq_of_getLsbD_eq fun i hi => ?_
  have hmask : mask.getLsbD i = decide (i < n) := h ⟨i, hi⟩
  rw [BitVec.getLsbD_setWidth, BitVec.getLsbD_extractLsb', BitVec.getLsbD_and, hmask]
  simp [hi, Bool.and_comm]

section
variable (w : Word)

theorem hcfg_fields :
    (0 : BitVec 7) ++ w.extractLsb' 8 1 ++ (0 : BitVec 2) ++ w.extractLsb' 4 2 ++ w.extractLsb' 0 4 = w &&& 0x013F := by
  refine BitVec.eq_of_getLsbD_eq fun i hi => ?_
  repeat rw [BitVec.getLsbD_append]
  interval_cases i <;> simp

theorem timing_fields : (w.extractLsb' 8 3).setWidth 8 ++ w.extractLsb' 0 8 = w &&& 0x07FF := by
  refine BitVec.eq_of_getLsbD_eq fun i hi => ?_
  rw [BitVec.getLsbD_append]
  interval_cases i <;> simp

theorem chsel_fields : (w.extractLsb' 4 1).setWidth 12 ++ w.extractLsb' 0 4 = w &&& 0x001F := by
  refine BitVec.eq_of_getLsbD_eq fun i hi => ?_
  rw [BitVec.getLsbD_append]
  interval_cases i <;> simp

theorem tsel_fields : (w.extractLsb' 8 3).setWidth 8 ++ (w.extractLsb' 0 7).setWidth 8 = w &&& 0x077F := by
  refine BitVec.eq_of_getLsbD_eq fun i hi => ?_
  rw [BitVec.getLsbD_append]
  interval_cases i <;> simp

theorem region_fields : w.extractLsb' 8 8 ++ (w.extractLsb' 0 7).setWidth 8 = w &&& 0xFF7F := by
  refine BitVec.eq_of_getLsbD_eq fun i hi => ?_
  rw [BitVec.getLsbD_append]
  interval_cases i <;> simp

theorem configZero_fields :
    (0 : BitVec 6) ++ w.extractLsb' 8 2 ++ w.extractLsb' 4 4 ++ w.extractLsb' 0 4 = w &&& 0x03FF := by
  refine BitVec.eq_of_getLsbD_eq fun i hi => ?_
  repeat rw [BitVec.getLsbD_append]
  interval_cases i <;> simp

theorem configOne_fields :
    (0 : BitVec 2) ++ w.extractLsb' 12 2 ++ (0 : BitVec 3) ++ w.extractLsb' 0 9 = w &&& 0x31FF := by
  refine BitVec.eq_of_getLsbD_eq fun i hi => ?_
  repeat rw [BitVec.getLsbD_append]
  interval_cases i <;> simp

end

/-- A number of a field at the width of a word. -/
theorem ofNat_toNat_field {n : Nat} (x : BitVec n) : BitVec.ofNat 16 x.toNat = x.setWidth 16 := BitVec.ofNat_toNat 16 x

/-- A region taken from a word reads as that word in its fields (03 R45). -/
theorem Region.word_of_fields (w : Word) :
    (Region.mk (w.extractLsb' 8 8).toNat (w.extractLsb' 0 7).toNat).word = w &&& 0xFF7F := by
  have hwide : ((w.extractLsb' 0 7).setWidth 8).toNat = (w.extractLsb' 0 7).toNat := by
    rw [BitVec.toNat_setWidth]
    have := (w.extractLsb' 0 7).isLt
    omega
  have hrow := ofNat_mul_add_toNat (w.extractLsb' 8 8) ((w.extractLsb' 0 7).setWidth 8)
  rw [hwide] at hrow
  exact hrow.trans (region_fields w)

/-- The fields of configuration word `k` (11 Table 35). -/
def configMask (k : Nat) : Word :=
  match k with
  | 0 => 0x03FF
  | 1 => 0x31FF
  | 2 => 0xFFFF
  | 3 => 0x07FF
  | 4 => 0x07FF
  | _ => 0x003F

section
variable {g g' : ChanConfig} {w : Word}

theorem ChanConfig.word_write_zero (h : g.write 0 w = some g') : g'.word 0 = w &&& 0x03FF := by
  have hcode : ∀ {m : Nat}, (w.extractLsb' 8 2).toNat = m → BitVec.ofNat 2 m = w.extractLsb' 8 2 := by
    rintro m rfl
    exact ofNat_toNat_same _
  have htaken : ∀ {c : BitVec 2}, c = w.extractLsb' 8 2 →
      (0 : BitVec 6) ++ c ++ w.extractLsb' 4 4 ++ w.extractLsb' 0 4 = w &&& 0x03FF := by
    rintro c rfl
    exact configZero_fields w
  simp only [ChanConfig.write] at h
  split at h
  case h_1 hmode =>
    cases h
    exact htaken (hcode hmode)
  case h_2 hmode =>
    cases h
    exact htaken (hcode hmode)
  case h_3 => cases h

theorem ChanConfig.word_write_one (h : g.write 1 w = some g') : g'.word 1 = w &&& 0x31FF := by
  have hcode : ∀ {m : Nat}, (w.extractLsb' 12 2).toNat = m → BitVec.ofNat 2 m = w.extractLsb' 12 2 := by
    rintro m rfl
    exact ofNat_toNat_same _
  have htaken : ∀ {c : BitVec 2}, c = w.extractLsb' 12 2 →
      (0 : BitVec 2) ++ c ++ (0 : BitVec 3) ++ BitVec.ofNat 9 (w.extractLsb' 0 9).toNat = w &&& 0x31FF := by
    rintro c rfl
    rw [ofNat_toNat_same]
    exact configOne_fields w
  simp only [ChanConfig.write] at h
  split at h
  · split at h
    case h_1 hnotify =>
      cases h
      exact htaken (hcode hnotify)
    case h_2 hnotify =>
      cases h
      exact htaken (hcode hnotify)
    case h_3 hnotify =>
      cases h
      exact htaken (hcode hnotify)
    case h_4 => cases h
  · cases h

theorem ChanConfig.word_write_two (h : g.write 2 w = some g') : g'.word 2 = w &&& 0xFFFF := by
  cases h
  exact BitVec.and_allOnes.symm

theorem ChanConfig.word_write_three (h : g.write 3 w = some g') : g'.word 3 = w &&& 0x07FF := by
  simp only [ChanConfig.write] at h
  split at h
  · cases h
    exact (ofNat_toNat_field _).trans (setWidth_low_field w _ 11 (by decide))
  · cases h

theorem ChanConfig.word_write_four (h : g.write 4 w = some g') : g'.word 4 = w &&& 0x07FF := by
  simp only [ChanConfig.write] at h
  split at h
  · cases h
    exact (ofNat_toNat_field _).trans (setWidth_low_field w _ 11 (by decide))
  · cases h

theorem ChanConfig.word_write_five (h : g.write 5 w = some g') : g'.word 5 = w &&& 0x003F := by
  cases h
  exact (ChanConfig.word_five _).trans (setWidth_low_field w _ 6 (by decide))

/-- A configuration word that is taken reads as the word in its fields (03 R38). -/
theorem ChanConfig.word_write {k : Nat} (hk : k < 6) (h : g.write k w = some g') : g'.word k = w &&& configMask k := by
  interval_cases k
  · exact ChanConfig.word_write_zero h
  · exact ChanConfig.word_write_one h
  · exact ChanConfig.word_write_two h
  · exact ChanConfig.word_write_three h
  · exact ChanConfig.word_write_four h
  · exact ChanConfig.word_write_five h

end

/-! ### What the registers show (11 Tables 34 and 35) -/

section
variable (s : State)

/-- DSTAT (R19). -/
theorem State.readDstat_shows :
    s.readDstat.extractLsb' 0 2 = s.hwi.sync.code ∧ s.readDstat.extractLsb' 2 1 = s.hwi.role.code ∧
      (s.readDstat.getLsbD 3 = true ↔ s.map.target ≠ none) ∧
      s.readDstat.extractLsb' 4 3 = s.host.deviceResult.code ∧
      (s.cq.entries.length ≤ 32 → (s.readDstat.extractLsb' 8 6).toNat = s.cq.entries.length) := by
  obtain ⟨hsync, hrole, hpending, hresult, hcount⟩ := s.readDstat_fields
  refine ⟨hsync, hrole, ?_, hresult, fun hlen => toNat_of_field hcount (by omega)⟩
  rw [getLsbD_of_field hpending, Option.isSome_iff_ne_none]

/-- MAPSTAT (02 R35). -/
theorem State.readMapstat_shows :
    (∀ f : Word, s.map.target = some f → s.readMapstat.extractLsb' 0 14 = f.extractLsb' 0 14 ∧
        s.readMapstat.getLsbD 14 = true) ∧
      (s.map.target = none → s.readMapstat.extractLsb' 0 15 = 0) ∧
      (s.readMapstat.getLsbD 15 = true ↔ s.map.active = .b) := by
  obtain ⟨htarget, hpending, hactive⟩ := s.readMapstat_fields
  have hpendingBit : s.readMapstat.getLsbD 14 = s.map.target.isSome := getLsbD_of_field hpending
  have hbank : s.map.active.code = bit (s.map.active == .b) := by cases s.map.active <;> rfl
  refine ⟨fun f hf => ?_, s.readMapstat_idle, ?_⟩
  · rw [htarget, hpendingBit, hf]
    exact ⟨rfl, rfl⟩
  · rw [getLsbD_of_field (hactive.trans hbank), beq_iff_eq]

/-- CQ0 and CQ1 (09 R153). -/
theorem State.readCq_shows {e : CqEntry} {rest : List CqEntry} (h : s.cq.entries = e :: rest) :
    s.readCq0.extractLsb' 0 9 = e.tag.extractLsb' 0 9 ∧ s.readCq0.getLsbD 9 = e.restarted ∧
      s.readCq0.extractLsb' 10 2 = e.status.code ∧ (s.readCq0.extractLsb' 12 4).toNat = e.chan.val ∧
      s.readCq1 = e.endFrame := by
  obtain ⟨htag, hrestarted, hstatus, hchan⟩ := s.readCq0_fields h
  refine ⟨htag, getLsbD_of_field hrestarted, hstatus, toNat_of_field hchan e.chan.isLt, ?_⟩
  unfold State.readCq1
  rw [h]

/-- CQ0 and CQ1 with an empty queue (09 R153). -/
theorem State.readCq_idle (h : s.cq.entries = []) : s.readCq0 = 0 ∧ s.readCq1 = 0 := by
  unfold State.readCq0 State.readCq1
  rw [h]
  exact ⟨rfl, rfl⟩

/-- CEVENT (10 R161). -/
theorem State.readCevent_shows :
    (∀ i : Fin 4, s.readCevent.getLsbD i.val = s.selectedChan.latches.getLsbD i.val) ∧
      s.readCevent.getLsbD 4 = s.evu.rxReady.getLsbD s.host.selected.val ∧
      s.readCevent.getLsbD 5 = s.evu.txSpace.getLsbD s.host.selected.val := by
  obtain ⟨hlatches, hrx, htx⟩ := cevent_bits s.selectedChan.latches (s.evu.rxReady.getLsbD s.host.selected.val)
    (s.evu.txSpace.getLsbD s.host.selected.val)
  exact ⟨fun i => (getLsbD_setWidth_of_lt _ (by omega)).trans (hlatches i),
    (getLsbD_setWidth_of_lt _ (by decide)).trans hrx, (getLsbD_setWidth_of_lt _ (by decide)).trans htx⟩

/-- TXSTAT (07 R125). -/
theorem State.readTxfree_shows (hcapacity : s.selectedChan.txRegion.capacity ≤ 1024)
    (hmessages : s.selectedChan.tx.messages.length ≤ 8) :
    (s.readTxfree.extractLsb' 0 11).toNat = s.selectedChan.txRegion.capacity - s.selectedChan.tx.held ∧
      (s.readTxfree.extractLsb' 11 4).toNat = s.selectedChan.tx.messages.length := by
  obtain ⟨hfree, hcount⟩ := s.readTxfree_fields
  have hroom : s.selectedChan.txFree < 2 ^ 11 := by
    unfold Channel.txFree
    omega
  exact ⟨toNat_of_field hfree hroom, toNat_of_field hcount (by omega)⟩

/-- The four record registers (08 R143). -/
theorem State.readRecord_shows {r : RxRecord} {rest : List RxRecord} (h : s.selectedChan.rx.records = r :: rest)
    (hlength : r.length ≤ 256) (hpos : r.readPos ≤ r.length) (hrecords : s.selectedChan.rx.records.length ≤ 16) :
    (s.readRxlen.extractLsb' 0 9).toNat = r.length ∧ s.readRxlen.getLsbD 9 = r.complete ∧
      (s.readRxlen.extractLsb' 10 5).toNat = s.selectedChan.rx.records.length ∧
      s.readRxflags.getLsbD 0 = r.flags.broken ∧ s.readRxflags.getLsbD 1 = r.flags.damaged ∧
      s.readRxflags.getLsbD 2 = r.flags.truncated ∧ s.readRxflags.getLsbD 3 = r.flags.overrun ∧
      s.readRxflags.getLsbD 4 = r.flags.aborted ∧ s.readRxflags.getLsbD 5 = r.lastFrame.isSome ∧
      (s.readRxflags.extractLsb' 6 9).toNat = r.readPos ∧
      s.readRxframe0 = r.firstFrame ∧ s.readRxframe1 = r.lastFrame.getD 0 := by
  have hcount : s.selectedChan.rx.records.length = rest.length + 1 := by rw [h, List.length_cons]
  obtain ⟨hlen, hcomplete, hcounted⟩ := s.readRxlen_fields h
  obtain ⟨hbroken, hdamaged, htruncated, hoverrun, haborted, hlast, hread⟩ := s.readRxflags_fields h
  have hframes : s.readRxframe0 = r.firstFrame ∧ s.readRxframe1 = r.lastFrame.getD 0 := by
    unfold State.readRxframe0 State.readRxframe1
    rw [h]
    exact ⟨rfl, rfl⟩
  exact ⟨toNat_of_field hlen (by omega), getLsbD_of_field hcomplete,
    (toNat_of_field hcounted (by omega)).trans hcount.symm, getLsbD_of_field hbroken, getLsbD_of_field hdamaged,
    getLsbD_of_field htruncated, getLsbD_of_field hoverrun, getLsbD_of_field haborted, getLsbD_of_field hlast,
    toNat_of_field hread (by omega), hframes⟩

/-- The four record registers with an empty list (08 R143). -/
theorem State.readRecord_idle (h : s.selectedChan.rx.records = []) :
    s.readRxlen = 0 ∧ s.readRxflags = 0 ∧ s.readRxframe0 = 0 ∧ s.readRxframe1 = 0 := by
  unfold State.readRxlen State.readRxflags State.readRxframe0 State.readRxframe1
  rw [h]
  exact ⟨rfl, rfl, rfl, rfl⟩

/-- CRSTAT (11 R172). -/
theorem State.readCrstat_shows {k : Credits} (hk : s.selectedChan.credits = k) :
    s.readCrstat.getLsbD 15 = s.host.creditView ∧
      (s.selectedChan.creditConnected = true → s.host.creditView = false →
        s.readCrstat.extractLsb' 0 5 = k.wordHeard - k.wordUsed ∧
        (s.readCrstat.extractLsb' 8 5).toNat = min (k.msgHeard - k.msgUsed).toNat 16) ∧
      (s.selectedChan.creditConnected = true → s.host.creditView = true →
        s.readCrstat.extractLsb' 0 5 = k.wordGranted - k.wordCounted ∧
        s.readCrstat.extractLsb' 8 5 = k.msgGranted - k.msgCounted) ∧
      (s.selectedChan.creditConnected = false → s.readCrstat.extractLsb' 0 15 = 0) := by
  obtain ⟨hwords, hmsgs, hview⟩ := s.readCrstat_fields
  refine ⟨getLsbD_of_field hview, fun hconnected hfirst => ?_, fun hconnected hsecond => ?_, s.readCrstat_idle⟩
  · rw [hconnected, hfirst, hk] at hwords hmsgs
    have hbound : k.availableMsgs ≤ 16 := Nat.min_le_right _ _
    exact ⟨hwords.trans (ofNat_toNat_same _), toNat_of_field hmsgs (Nat.lt_of_le_of_lt hbound (by decide))⟩
  · rw [hconnected, hsecond, hk] at hwords hmsgs
    exact ⟨hwords.trans (ofNat_toNat_same _), hmsgs.trans (ofNat_toNat_same _)⟩

end

/-! ### A word taken is read back -/

/-- A field of one bit is that bit. -/
theorem extractLsb'_one_eq_bit (w : Word) (i : Nat) : w.extractLsb' i 1 = bit (w.getLsbD i) := by
  refine BitVec.eq_of_getLsbD_eq fun j hj => ?_
  obtain rfl : j = 0 := by omega
  have hbit : (bit (w.getLsbD i)).getLsbD 0 = w.getLsbD i := by cases w.getLsbD i <;> rfl
  rw [BitVec.getLsbD_extractLsb', hbit]
  simp

/-- The code of the role that a written bit names is that bit (01 R2). -/
theorem Role.code_of_bit (w : Word) (i : Nat) :
    (if w.getLsbD i then Role.master else Role.follower).code = w.extractLsb' i 1 := by
  rw [extractLsb'_one_eq_bit]
  cases w.getLsbD i <;> rfl

/-- The command that was carried out leaves the state it finishes with. -/
theorem eq_evaluate_of_next {o : Out} {t u : State} (hout : o = finish u) (h : o = .next t) : t = u.evaluate := by
  cases hout.symm.trans h
  rfl

/-- A low field under a mask of the table is that field as a number. -/
theorem toNat_low_field (w mask : Word) (n : Nat) (hn : n < 16)
    (h : ∀ i : Fin 16, mask.getLsbD i.val = decide (i.val < n)) : (w.extractLsb' 0 n).toNat = (w &&& mask).toNat := by
  rw [← setWidth_low_field w mask n h, BitVec.toNat_setWidth]
  exact (Nat.mod_eq_of_lt ((BitVec.isLt _).trans (Nat.pow_lt_pow_right (by decide) hn))).symm

@[simp] theorem State.advanceIndex_chan (s : State) (c : Chan) : s.advanceIndex.chan c = s.chan c := rfl

section
variable {s t : State} {w : Word}

theorem readHcfg_back (hlive : s.resetPin = false) (hoff : s.hwi.sync = .off)
    (h : exec (.hcfgWrite w) s = .next t) : t.readRegister 2 = w &&& 0x013F := by
  cases eq_evaluate_of_next ((whenLive_live _ hlive).trans (if_pos hoff)) h
  calc
    _ = (0 : BitVec 7) ++ (if w.getLsbD 8 then Role.master else Role.follower).code ++ (0 : BitVec 2) ++
          w.extractLsb' 4 2 ++ w.extractLsb' 0 4 := rfl
    _ = _ := by rw [Role.code_of_bit, hcfg_fields]

theorem readHdiv_back (hlive : s.resetPin = false) (hoff : s.hwi.sync = .off)
    (h : exec (.hdivWrite w) s = .next t) : t.readRegister 3 = w &&& 0x00FF := by
  cases eq_evaluate_of_next ((whenLive_live _ hlive).trans (if_pos hoff)) h
  exact setWidth_low_field w _ 8 (by decide)

theorem readDarg_back (hlive : s.resetPin = false) (h : exec (.registerWrite .darg w) s = .next t) :
    t.readRegister 1 = w := by
  cases eq_evaluate_of_next (whenLive_live _ hlive) h
  rfl

theorem readDeven_back (hlive : s.resetPin = false) (h : exec (.devenWrite w) s = .next t) :
    t.readRegister 7 = w &&& 0x00FF := by
  cases eq_evaluate_of_next (whenLive_live _ hlive) h
  exact setWidth_low_field w _ 8 (by decide)

/-- The test of TIMING and TIMING2: a low byte that is not 0 (05 R94, 06 R108). -/
theorem lowByte_toNat_ne_zero (h : w &&& 0x00FF ≠ 0) : ¬ (w.extractLsb' 0 8).toNat = 0 := by
  rw [toNat_low_field w 0x00FF 8 (by decide) (by decide), toNat_eq_zero_iff]
  exact h

theorem readTiming_back (hlive : s.resetPin = false) (hpos : w &&& 0x00FF ≠ 0)
    (h : exec (.timingWrite w) s = .next t) : t.readRegister 9 = w &&& 0x07FF := by
  cases eq_evaluate_of_next ((whenLive_live _ hlive).trans (if_neg (lowByte_toNat_ne_zero hpos))) h
  have hwide : ((w.extractLsb' 8 3).setWidth 8).toNat = (w.extractLsb' 8 3).toNat :=
    BitVec.toNat_setWidth_of_le (by decide)
  calc
    _ = BitVec.ofNat (8 + 8) ((w.extractLsb' 8 3).toNat * 2 ^ 8 + (w.extractLsb' 0 8).toNat) := rfl
    _ = _ := by rw [← hwide, ofNat_mul_add_toNat, timing_fields]

theorem readTiming2_back (hlive : s.resetPin = false) (hpos : w &&& 0x00FF ≠ 0)
    (h : exec (.timing2Write w) s = .next t) : t.readRegister 10 = w := by
  cases eq_evaluate_of_next ((whenLive_live _ hlive).trans (if_neg (lowByte_toNat_ne_zero hpos))) h
  calc
    _ = BitVec.ofNat (8 + 8) ((w.extractLsb' 8 8).toNat * 2 ^ 8 + (w.extractLsb' 0 8).toNat) := rfl
    _ = w.extractLsb' 8 8 ++ w.extractLsb' 0 8 := ofNat_mul_add_toNat _ _
    _ = w := by
      rw [BitVec.extractLsb'_append_extractLsb'_eq_extractLsb' (by decide)]
      exact BitVec.extractLsb'_eq_self

theorem readCqthr_back (hlive : s.resetPin = false) (hlow : 1 ≤ (w &&& 0x003F).toNat)
    (hhigh : (w &&& 0x003F).toNat ≤ 32) (h : exec (.cqthrWrite w) s = .next t) :
    t.readRegister 13 = w &&& 0x003F := by
  rw [← toNat_low_field w 0x003F 6 (by decide) (by decide)] at hlow hhigh
  cases eq_evaluate_of_next ((whenLive_live _ hlive).trans (if_pos ⟨hlow, hhigh⟩)) h
  exact (ofNat_toNat_field _).trans (setWidth_low_field w _ 6 (by decide))

theorem readChsel_back (hlive : s.resetPin = false) (h : exec (.registerWrite .chsel w) s = .next t) :
    t.readRegister 14 = w &&& 0x001F := by
  cases eq_evaluate_of_next (whenLive_live _ hlive) h
  have hview : (if w.getLsbD 4 then 16 else 0) = ((w.extractLsb' 4 1).setWidth 12).toNat * 2 ^ 4 := by
    rw [BitVec.toNat_setWidth_of_le (by decide), extractLsb'_one_eq_bit]
    cases w.getLsbD 4 <;> rfl
  calc
    _ = BitVec.ofNat (12 + 4) ((w.extractLsb' 0 4).toNat + if w.getLsbD 4 then 16 else 0) := rfl
    _ = (w.extractLsb' 4 1).setWidth 12 ++ w.extractLsb' 0 4 := by
      rw [hview, Nat.add_comm (w.extractLsb' 0 4).toNat, ofNat_mul_add_toNat]
    _ = _ := chsel_fields w

theorem readCtag_back (hlive : s.resetPin = false) (h : exec (.registerWrite .ctag w) s = .next t) :
    t.readRegister 17 = w := by
  cases eq_evaluate_of_next (whenLive_live _ hlive) h
  simp [State.readRegister, State.selectedChan]

theorem readTsel_back (hlive : s.resetPin = false) (htaken : tselOfWord w ≠ none)
    (h : exec (.tselWrite w) s = .next t) : t.readRegister 25 = w &&& 0x077F := by
  have hfields : tselOfWord w = some ((w.extractLsb' 8 3).toNat, (w.extractLsb' 0 7).toNat) := by
    simp only [tselOfWord] at htaken ⊢
    split
    · rfl
    · rename_i hout
      exact absurd (if_neg hout) htaken
  have hout : exec (.tselWrite w) s = finish { s with host := { s.host with
      table := (w.extractLsb' 8 3).toNat, index := (w.extractLsb' 0 7).toNat } } := by
    refine (whenLive_live _ hlive).trans ?_
    rw [hfields]
  cases eq_evaluate_of_next hout h
  have htable : ((w.extractLsb' 8 3).setWidth 8).toNat = (w.extractLsb' 8 3).toNat :=
    BitVec.toNat_setWidth_of_le (by decide)
  have hindex : ((w.extractLsb' 0 7).setWidth 8).toNat = (w.extractLsb' 0 7).toNat :=
    BitVec.toNat_setWidth_of_le (by decide)
  calc
    _ = BitVec.ofNat (8 + 8) ((w.extractLsb' 8 3).toNat * 2 ^ 8 + (w.extractLsb' 0 7).toNat) := rfl
    _ = _ := by rw [← htable, ← hindex, ofNat_mul_add_toNat, tsel_fields]

theorem readRegion_back (hlive : s.resetPin = false) (htable : s.host.table = 2)
    (hsize : (w.extractLsb' 0 7).toNat ≤ 64) (hchan : (s.chan (chanOfIndex s.host.index 2)).reconfigurable = true)
    (h : exec (.regionTableWrite w) s = .next t) : t.tableWord 2 s.host.index = w &&& 0xFF7F := by
  have hwrite : s.writeRegion s.host.index w = s.modChan (chanOfIndex s.host.index 2) (fun ch =>
      if s.host.index % 2 = 0 then ch.giveTxRegion ⟨(w.extractLsb' 8 8).toNat, (w.extractLsb' 0 7).toNat⟩
      else ch.giveRxRegion ⟨(w.extractLsb' 8 8).toNat, (w.extractLsb' 0 7).toNat⟩) := by
    simp only [State.writeRegion, regionOfWord, if_pos hsize, if_pos hchan]
  cases eq_evaluate_of_next (tableAccess_taken hlive (by simp [htable])) h
  rw [hwrite, ← Region.word_of_fields w]
  simp only [State.tableWord, State.chan_evaluate, State.advanceIndex_chan, State.chan_modChan_same]
  by_cases heven : s.host.index % 2 = 0
  · rw [if_pos heven, if_pos heven]
    rfl
  · rw [if_neg heven, if_neg heven]
    rfl

theorem readConfig_back (hlive : s.resetPin = false) (htable : s.host.table = 3)
    (hchan : (s.chan (chanOfIndex s.host.index 6)).reconfigurable = true)
    (htaken : (s.chan (chanOfIndex s.host.index 6)).config.write (s.host.index % 6) w ≠ none)
    (h : exec (.configWordWrite w) s = .next t) :
    t.tableWord 3 s.host.index = w &&& configMask (s.host.index % 6) := by
  obtain ⟨g, hg⟩ := Option.ne_none_iff_exists'.mp htaken
  have hwrite : s.writeConfig s.host.index w =
      s.modChan (chanOfIndex s.host.index 6) (fun ch => { ch with config := g }) := by
    simp [State.writeConfig, hg, hchan]
  cases eq_evaluate_of_next (tableAccess_taken hlive (by simp [htable])) h
  rw [hwrite, ← ChanConfig.word_write (Nat.mod_lt _ (by decide)) hg]
  simp only [State.tableWord, State.chan_evaluate, State.advanceIndex_chan, State.chan_modChan_same]

end

/-- Settles O49: each register by what it shows, then each word taken by its read-back. -/
theorem registersShowTheState : Obligations.RegistersShowTheState := by
  unfold Obligations.RegistersShowTheState
  refine ⟨fun s ch hch => ?_, fun w s t hlive => ?_⟩
  · subst hch
    obtain ⟨hlatches, hcq⟩ := s.evu.devpend_bits
    refine ⟨s.readDstat_shows, ⟨rfl, rfl⟩, s.readMapstat_shows, ⟨fun i => ?_, ?_⟩, fun e rest he => s.readCq_shows he,
      s.readCq_idle, s.readCstat_fields, s.readCevent_shows, s.readTxfree_shows,
      fun r rest hr => s.readRecord_shows hr, s.readRecord_idle, s.readCrstat_shows rfl⟩
    · exact (getLsbD_setWidth_of_lt _ (by omega)).trans (hlatches i)
    · exact (getLsbD_setWidth_of_lt _ (by decide)).trans hcq
  · refine ⟨readHcfg_back hlive, readHdiv_back hlive, readDarg_back hlive, readDeven_back hlive, readTiming_back hlive,
      readTiming2_back hlive, readCqthr_back hlive, readChsel_back hlive, readCtag_back hlive, readTsel_back hlive,
      fun htable _ => readRegion_back hlive htable, fun htable _ hchan htaken h => ?_⟩
    exact readConfig_back hlive htable hchan htaken h

end Sys2Proof.Machine
end

section
/-! SUPPORT. The Slot Map: its banks, the swap, the frame-start test and the rewriting at START (02 R21, R28 to R30,
R34). -/

namespace Sys2Proof.Machine

-- One theorem after another, as in the tests: many at once ask for more threads than there are.
set_option Elab.async false

/-! ### Banks (02 R21) -/

section
variable (m : SlotMap) (n : BankName) (v : Vector MapUse 64)

@[simp] theorem SlotMap.bank_setBank_same : (m.setBank n v).bank n = v := by cases n <;> rfl

@[simp] theorem SlotMap.bank_setBank_of_other : (m.setBank n.other v).bank n = m.bank n := by cases n <;> rfl

@[simp] theorem SlotMap.bank_other_setBank : (m.setBank n v).bank n.other = m.bank n.other := by cases n <;> rfl

@[simp] theorem SlotMap.setBank_active : (m.setBank n v).active = m.active := by cases n <;> rfl

@[simp] theorem SlotMap.setBank_target : (m.setBank n v).target = m.target := by cases n <;> rfl

@[simp] theorem SlotMap.setBank_checkedN : (m.setBank n v).checkedN = m.checkedN := by cases n <;> rfl

@[simp] theorem SlotMap.setBank_dueFrame : (m.setBank n v).dueFrame = m.dueFrame := by cases n <;> rfl

/-- A write to the pending bank leaves the active one as it is. -/
@[simp] theorem SlotMap.activeBank_setBank_pending : (m.setBank m.active.other v).activeBank = m.activeBank := by
  simp [SlotMap.activeBank]

end

/-! ### The swap and the frame-start test (02 R29, R30) -/

/-- After a swap both banks hold the plan that was pending (02 R30). -/
theorem SlotMap.swap_eq (m : SlotMap) :
    m.swap = { m with
      active := m.active.other, bankA := m.pendingBank, bankB := m.pendingBank, target := none } := by
  unfold SlotMap.swap SlotMap.setBank SlotMap.pendingBank
  cases m.active <;> rfl

@[simp] theorem SlotMap.swap_target (m : SlotMap) : m.swap.target = none := by rw [SlotMap.swap_eq]

@[simp] theorem SlotMap.swap_checkedN (m : SlotMap) : m.swap.checkedN = m.checkedN := by rw [SlotMap.swap_eq]

@[simp] theorem SlotMap.swap_activeBank (m : SlotMap) : m.swap.activeBank = m.pendingBank := by
  rw [SlotMap.swap_eq]
  unfold SlotMap.activeBank SlotMap.bank
  split <;> rfl

section
variable {s : State} {f target : Word} (hdue : s.map.dueFrame = some f)
include hdue

/-- The frame-start test without a pending switch. -/
theorem State.mapTest_idle (ht : s.map.target = none) :
    s.mapTest = { s with map := { s.map with dueFrame := none } } := by
  simp only [State.mapTest, hdue, ht]

variable (ht : s.map.target = some target)
include ht

/-- The frame-start test in the frame of the target. -/
theorem State.mapTest_on_target (hd : (target - f).toNat = 0) :
    s.mapTest = { s with map := { s.map.swap with dueFrame := none } }.raise .mapSwitched := by
  simp only [State.mapTest, hdue, ht, if_pos hd]

/-- The frame-start test after the frame of the target. -/
theorem State.mapTest_late (hd : 32768 ≤ (target - f).toNat) :
    s.mapTest = ({ s with map := { s.map.swap with dueFrame := none } }.raise .mapSwitched).raise .mapLate := by
  simp only [State.mapTest, hdue, ht, if_pos hd, if_neg (show ¬ (target - f).toNat = 0 by omega)]

/-- The frame-start test before the frame of the target. -/
theorem State.mapTest_early (hlow : 1 ≤ (target - f).toNat) (hhigh : (target - f).toNat ≤ 32767) :
    s.mapTest = { s with map := { s.map with dueFrame := none } } := by
  simp only [State.mapTest, hdue, ht, if_neg (show ¬ (target - f).toNat = 0 by omega),
    if_neg (show ¬ 32768 ≤ (target - f).toNat by omega)]

end

/-- The frame-start test takes the pending switch or leaves the plan as it is. -/
theorem State.mapTest_map_cases (s : State) :
    s.mapTest.map = { s.map with dueFrame := none } ∨
      (s.map.target.isSome = true ∧ s.mapTest.map = { s.map.swap with dueFrame := none }) := by
  cases hdue : s.map.dueFrame with
  | none =>
    rw [State.mapTest_of_not_due s hdue, ← hdue]
    exact .inl rfl
  | some f =>
    cases ht : s.map.target with
    | none => exact .inl (by rw [State.mapTest_idle hdue ht])
    | some target =>
      by_cases hzero : (target - f).toNat = 0
      · exact .inr ⟨rfl, by rw [State.mapTest_on_target hdue ht hzero]; rfl⟩
      · by_cases hlate : 32768 ≤ (target - f).toNat
        · exact .inr ⟨rfl, by rw [State.mapTest_late hdue ht hlate]; rfl⟩
        · exact .inl (by rw [State.mapTest_early hdue ht (by omega) (by omega)])

/-! ### TxControl entries of a bank (02 R28, R34) -/

section
variable {bank : Vector MapUse 64} {n : Nat}

/-- Surplus is a TxControl entry among 1 to n − 1 with another one below it. -/
theorem surplusTxControl_iff (i : Slot) :
    surplusTxControl bank n i = true ↔ 0 < i.val ∧ i.val < n ∧ bank[i] = .txControl ∧
      ∃ j : Slot, 0 < j.val ∧ j.val < i.val ∧ bank[j] = .txControl := by
  simp [surplusTxControl, and_assoc]

/-- The rewriting, entry by entry. -/
theorem getElem_rewriteBank (i : Slot) :
    (rewriteBank bank n)[i] = if surplusTxControl bank n i then .unused else bank[i] := by
  simp [rewriteBank]

/-- Exactly the surplus entries become Unused. -/
theorem rewriteBank_entry (i : Slot) :
    ((0 < i.val ∧ i.val < n ∧ bank[i] = .txControl ∧
        ∃ j : Slot, 0 < j.val ∧ j.val < i.val ∧ bank[j] = .txControl) →
      (rewriteBank bank n)[i] = .unused) ∧
    (¬ (0 < i.val ∧ i.val < n ∧ bank[i] = .txControl ∧
        ∃ j : Slot, 0 < j.val ∧ j.val < i.val ∧ bank[j] = .txControl) →
      (rewriteBank bank n)[i] = bank[i]) := by
  rw [← surplusTxControl_iff, getElem_rewriteBank]
  exact ⟨fun h => if_pos h, fun h => if_neg h⟩

/-- A TxControl entry of the rewritten bank is one of the bank, and no surplus one. -/
theorem txControl_of_rewriteBank {i : Slot} (h : (rewriteBank bank n)[i] = .txControl) :
    surplusTxControl bank n i = false ∧ bank[i] = .txControl := by
  rw [getElem_rewriteBank] at h
  split at h
  · cases h
  · rename_i hkept
    exact ⟨Bool.eq_false_iff.mpr hkept, h⟩

/-- A bank with at most one TxControl slot among 1 to n − 1 counts at most one. -/
theorem txControlCount_le_one
    (h : ∀ i j : Slot, 0 < i.val → i.val < j.val → j.val < n → bank[i] = .txControl → bank[j] ≠ .txControl) :
    txControlCount bank n ≤ 1 := by
  unfold txControlCount
  rw [List.countP_eq_length_filter, ← List.toFinset_card_of_nodup ((List.nodup_finRange 64).filter _),
    Finset.card_le_one]
  simp only [List.mem_toFinset, List.mem_filter, Bool.and_eq_true, decide_eq_true_eq]
  rintro i ⟨-, ⟨hi, hin⟩, hbi⟩ j ⟨-, ⟨hj, hjn⟩, hbj⟩
  rcases Nat.lt_trichotomy i.val j.val with hlt | heq | hgt
  · exact absurd hbj (h i j hi hlt hjn hbi)
  · exact Fin.ext heq
  · exact absurd hbi (h j i hj hgt hin hbj)

/-- Fewer slots hold no more TxControl entries. -/
theorem txControlCount_mono {k : Nat} (h : k ≤ n) : txControlCount bank k ≤ txControlCount bank n := by
  refine List.countP_mono_left fun i _ hi => ?_
  simp only [Bool.and_eq_true, decide_eq_true_eq] at hi ⊢
  exact ⟨⟨hi.1.1, hi.1.2.trans_le h⟩, hi.2⟩

/-- The rewritten bank is valid. -/
theorem txControlCount_rewriteBank : txControlCount (rewriteBank bank n) n ≤ 1 := by
  refine txControlCount_le_one fun i j hi hij hj hbi hbj => ?_
  obtain ⟨-, hi'⟩ := txControl_of_rewriteBank hbi
  obtain ⟨hkept, hj'⟩ := txControl_of_rewriteBank hbj
  have hsurplus : surplusTxControl bank n j = true :=
    (surplusTxControl_iff j).mpr ⟨hi.trans hij, hj, hj', i, hi, hij, hi'⟩
  rw [hsurplus] at hkept
  cases hkept

end

/-! ### The rewriting at START (02 R34) -/

section
variable (m : SlotMap) (n : Nat)

@[simp] theorem SlotMap.startWith_checkedN : (m.startWith n).checkedN = n := rfl

@[simp] theorem SlotMap.startWith_active : (m.startWith n).active = m.active := by
  unfold SlotMap.startWith
  dsimp only
  split_ifs <;> simp

@[simp] theorem SlotMap.startWith_target : (m.startWith n).target = m.target := by
  unfold SlotMap.startWith
  dsimp only
  split_ifs <;> simp

@[simp] theorem SlotMap.startWith_dueFrame : (m.startWith n).dueFrame = m.dueFrame := by
  unfold SlotMap.startWith
  dsimp only
  split_ifs <;> simp

variable {m n}

/-- START under the checked N examines nothing. -/
theorem SlotMap.startWith_same (h : n = m.checkedN) : m.startWith n = m := by
  subst h
  simp [SlotMap.startWith]

theorem SlotMap.startWith_activeBank (h : n ≠ m.checkedN) :
    (m.startWith n).activeBank = rewriteBank m.activeBank n := by
  unfold SlotMap.activeBank
  rw [SlotMap.startWith_active]
  unfold SlotMap.startWith
  rw [if_neg h]
  change SlotMap.bank (if _ then _ else _) _ = _
  split <;> simp [SlotMap.activeBank]

theorem SlotMap.startWith_pendingBank (h : n ≠ m.checkedN) :
    (m.startWith n).pendingBank = if m.target.isSome then rewriteBank m.pendingBank n else m.pendingBank := by
  unfold SlotMap.pendingBank
  rw [SlotMap.startWith_active]
  unfold SlotMap.startWith
  rw [if_neg h]
  change SlotMap.bank (if _ then _ else _) _ = _
  split <;> simp [SlotMap.pendingBank]

end

/-- Settles O25: under a new N the active bank is rewritten, and the pending bank for a pending switch. -/
theorem startRewritesSurplusControl : Obligations.StartRewritesSurplusControl := by
  unfold Obligations.StartRewritesSurplusControl
  intro m n
  refine ⟨m.startWith_checkedN n, m.startWith_active n, m.startWith_target n, m.startWith_dueFrame n,
    fun h => by rw [SlotMap.startWith_same h]; exact ⟨rfl, rfl⟩, fun h => ⟨?_, fun ht => ?_, fun ht => ?_⟩⟩
  · rw [SlotMap.startWith_activeBank h]
    exact rewriteBank_entry
  · rw [SlotMap.startWith_pendingBank h, if_neg (by simp [ht])]
  · rw [SlotMap.startWith_pendingBank h, if_pos (Option.isSome_iff_ne_none.mpr ht)]
    exact rewriteBank_entry

end Sys2Proof.Machine
end

section
/-! SUPPORT. The slot plan stays valid: every command leaves the plan as it is, takes a switch, or checks the plan under
the N that it brings in force (02 R21, R27 to R30, R34). -/

namespace Sys2Proof.Machine

-- One theorem after another, as in the tests: many at once ask for more threads than there are.
set_option Elab.async false

/-- From `s` to `t` the banks, the switch and the frame length stayed as they were, and the highway did not leave OFF. -/
structure KeepsPlan (s t : State) : Prop where
  lengthCode : t.hwi.lengthCode = s.hwi.lengthCode
  sync : t.hwi.sync ≠ .off → s.hwi.sync ≠ .off
  map : t.map = { s.map with dueFrame := t.map.dueFrame }

namespace KeepsPlan

theorem trans {s t u : State} (h : KeepsPlan s t) (k : KeepsPlan t u) : KeepsPlan s u :=
  ⟨k.lengthCode.trans h.lengthCode, fun hu => h.sync (k.sync hu), by rw [k.map, h.map]⟩

/-- What moves no more than the sync state. -/
theorem of_sync {s t : State} (sync : t.hwi.sync ≠ .off → s.hwi.sync ≠ .off)
    (lengthCode : t.hwi.lengthCode = s.hwi.lengthCode := by rfl)
    (map : t.map = { s.map with dueFrame := t.map.dueFrame } := by rfl) : KeepsPlan s t := ⟨lengthCode, sync, map⟩

theorem same (s : State) : KeepsPlan s s := of_sync id

theorem of_off {s t : State} (h : OffHighway s t) : KeepsPlan s t :=
  of_sync (by rw [h.hwi]; exact id) (by rw [h.hwi]) (by rw [h.map])

theorem of_counts {f : Bool} {s t : State} (h : Counts f s t) : KeepsPlan s t :=
  of_sync (by rw [h.hwi]; exact id) (by rw [h.hwi]) (by rw [h.map])

theorem inFollowerFrame (s : State) : KeepsPlan s s.inFollowerFrame := by
  unfold State.inFollowerFrame
  split
  · exact same s
  · exact of_sync id

theorem inMasterFrame (s : State) : KeepsPlan s s.inMasterFrame := by
  unfold State.inMasterFrame
  split
  · exact same s
  · exact of_sync id

theorem checkHeader (s : State) (line : SlotBits) : KeepsPlan s (s.checkHeader line) := by
  unfold State.checkHeader
  split
  · split
    · exact same s
    · exact of_sync id
  · exact of_sync id

theorem frameStart (s : State) : KeepsPlan s s.frameStart := of_sync id

theorem enterSlot (s : State) (n : Slot) : KeepsPlan s (s.enterSlot n) := of_sync id

theorem endLine (s : State) (clash : Bool) : KeepsPlan s (s.endLine clash) :=
  (of_sync id : KeepsPlan s { s with hwi := { s.hwi with line := none } }).trans (of_counts (.endLine s clash))

end KeepsPlan

/-! ### What the invariant gives and what gives it -/

/-- A frame has at least 8 slots (01 Table 7). -/
theorem slotsOfCode_ge (code : BitVec 2) : 8 ≤ slotsOfCode code := Nat.le_mul_of_pos_right 8 (Nat.two_pow_pos _)

/-- A Follower that runs frames is not in OFF (01 Table 10). -/
theorem Highway.sync_ne_off_of_followerRuns {x : Highway} (h : x.followerRuns = true) : x.sync ≠ .off := by
  intro hoff
  obtain ⟨-, hsync⟩ := x.followerRuns_iff.mp h
  rw [hoff] at hsync
  rcases hsync with hsync | hsync <;> cases hsync

/-- A bank is valid when it counts at most one TxControl entry (02 R28). -/
theorem bankValid_iff (bank : Vector MapUse 64) (n : Nat) : bankValid bank n = true ↔ txControlCount bank n ≤ 1 :=
  decide_eq_true_iff

namespace PlanValid

theorem of_keeps {s t : State} (h : PlanValid s) (k : KeepsPlan s t) : PlanValid t := by
  obtain ⟨hN, hactive, hpending, hslots⟩ := h
  unfold PlanValid State.slots
  rw [k.map, k.lengthCode]
  exact ⟨hN, hactive, hpending, fun hsync => hslots (k.sync hsync)⟩

/-- With no switch pending the pending bank may hold any plan (02 R25). -/
theorem of_unpending {s : State} (htarget : s.map.target = none) (hN : 8 ≤ s.map.checkedN)
    (hactive : txControlCount s.map.activeBank s.map.checkedN ≤ 1)
    (hslots : s.hwi.sync ≠ .off → s.slots = s.map.checkedN) : PlanValid s := by
  refine ⟨hN, hactive, fun hsome => ?_, hslots⟩
  rw [htarget] at hsome
  cases hsome

/-- A swap brings a valid pending plan in force (02 R28, R30). -/
theorem of_swap {s t : State}
    (hmap : t.map = { s.map.swap with checkedN := t.map.checkedN, dueFrame := t.map.dueFrame })
    (hN : 8 ≤ t.map.checkedN) (hpending : txControlCount s.map.pendingBank t.map.checkedN ≤ 1)
    (hslots : t.hwi.sync ≠ .off → t.slots = t.map.checkedN) : PlanValid t := by
  have hactive : t.map.activeBank = s.map.pendingBank := by
    rw [hmap]
    exact s.map.swap_activeBank
  exact of_unpending (by rw [hmap]; exact s.map.swap_target) hN (hactive ▸ hpending) hslots

/-- The frame-start test takes a plan that was valid for the pending switch (02 R28, R29). -/
theorem mapTest {s : State} (h : PlanValid s) : PlanValid s.mapTest := by
  have hhwi : s.mapTest.hwi = s.hwi := by rw [State.mapTest_frame]
  rcases s.mapTest_map_cases with hmap | ⟨htarget, hmap⟩
  · exact h.of_keeps (.of_sync (by rw [hhwi]; exact id) (by rw [hhwi]) (by rw [hmap]))
  · obtain ⟨hN, -, hpending, hslots⟩ := h
    have hchecked : s.mapTest.map.checkedN = s.map.checkedN := by
      rw [hmap]
      exact s.map.swap_checkedN
    refine of_swap (s := s) ?_ (hchecked ▸ hN) (hchecked ▸ hpending htarget) ?_
    · rw [hmap]
    · unfold State.slots
      rw [hhwi, hchecked]
      exact hslots

theorem takeDue {s : State} (h : PlanValid s) : PlanValid s.takeDue := by
  have hm : PlanValid s.takeDue ↔ PlanValid s.mapTest := by
    unfold PlanValid State.slots
    rw [s.takeDue_map.1, s.takeDue_hwi, s.mapTest_frame]
  exact hm.mpr h.mapTest

theorem finish {s t : State} (h : PlanValid s) (k : KeepsPlan s t) : Ensures (finish t) PlanValid :=
  .next (h.of_keeps ⟨k.lengthCode, k.sync, k.map⟩)

theorem finishDevice {s t : State} (h : PlanValid s) (k : KeepsPlan s t) (r : CmdResult) :
    Ensures (finishDevice t r) PlanValid := .next (h.of_keeps ⟨k.lengthCode, k.sync, k.map⟩)

end PlanValid

/-! ### Device commands and register writes -/

section
variable {s : State} (h : PlanValid s)
include h

/-- START leaves the active plan valid under the N it uses, and the pending one for a pending switch (02 R34). -/
theorem PlanValid.startWith (n : Nat) :
    txControlCount (s.map.startWith n).activeBank n ≤ 1 ∧
      (s.map.target.isSome = true → txControlCount (s.map.startWith n).pendingBank n ≤ 1) := by
  obtain ⟨-, hactive, hpending, -⟩ := h
  by_cases hn : n = s.map.checkedN
  · rw [SlotMap.startWith_same hn, hn]
    exact ⟨hactive, hpending⟩
  · rw [SlotMap.startWith_activeBank hn, SlotMap.startWith_pendingBank hn]
    refine ⟨txControlCount_rewriteBank, fun htarget => ?_⟩
    rw [if_pos htarget]
    exact txControlCount_rewriteBank

theorem execStart_planValid : Ensures (execStart s) PlanValid := by
  refine .live h fun _ => ?_
  split
  · obtain ⟨hactive, hpending⟩ := h.startWith s.slots
    have hN : 8 ≤ s.slots := slotsOfCode_ge _
    refine .next ?_
    unfold State.startHighway
    cases s.hwi.role
    · exact ⟨hN, hactive, by simpa using hpending, fun _ => rfl⟩
    · exact ⟨hN, hactive, by simpa using hpending, fun _ => rfl⟩
  all_goals exact h.finishDevice (.same s) _

theorem execStop_planValid : Ensures (execStop s) PlanValid := by
  have ht := h.takeDue
  refine .live h fun _ => ?_
  generalize s.takeDue = t at ht ⊢
  split
  · exact h.finishDevice (.same s) _
  · exact h.finishDevice (.of_sync fun hoff => absurd rfl hoff) _
  all_goals exact ht.finishDevice (.of_sync fun hoff => absurd rfl hoff) _

theorem execSwitch_planValid : Ensures (execSwitch s) PlanValid := by
  refine .live h fun _ => ?_
  split_ifs with htarget hvalid hoff
  · exact h.finishDevice (.same s) _
  · exact h.finishDevice (.same s) _
  · have hpending : txControlCount s.map.pendingBank s.slots ≤ 1 := (bankValid_iff _ _).mp (by simpa using hvalid)
    exact .next (.of_swap (s := s) rfl (slotsOfCode_ge _) hpending fun hsync => absurd hoff hsync)
  · have hpending : txControlCount s.map.pendingBank s.slots ≤ 1 := (bankValid_iff _ _).mp (by simpa using hvalid)
    obtain ⟨hN, hactive, -, hslots⟩ := h
    exact .next ⟨hN, hactive, fun _ => hslots hoff ▸ hpending, hslots⟩

theorem execCancel_planValid : Ensures (execCancel s) PlanValid := by
  refine .live h fun _ => ?_
  split_ifs
  · obtain ⟨hN, hactive, -, hslots⟩ := h
    exact .next (.of_unpending rfl hN hactive hslots)
  · exact h.finishDevice (.same s) _

/-- A plan that is valid under a longer frame is valid under the reset length. -/
theorem execSoftreset_planValid : Ensures (execSoftreset s) PlanValid := by
  refine .live h fun _ => ?_
  obtain ⟨hN, hactive, -, -⟩ := h
  exact .next (.of_unpending rfl (Nat.le_refl 8) ((txControlCount_mono hN).trans hactive) fun hsync => absurd rfl hsync)

theorem execResetPin_planValid (asserted : Bool) : Ensures (execResetPin asserted s) PlanValid := by
  cases asserted
  · exact .next h
  · obtain ⟨-, -, -, -, -, -, -, hreset, -⟩ := resetMeetsTheInvariants
    exact .next hreset

theorem execHcfgWrite_planValid (w : Word) : Ensures (execHcfgWrite w s) PlanValid := by
  refine .live h fun _ => ?_
  split
  · rename_i hoff
    obtain ⟨hN, hactive, hpending, -⟩ := h
    exact .next ⟨hN, hactive, hpending, fun hsync => absurd hoff hsync⟩
  · exact h.finishDevice (.same s) _

theorem execHdivWrite_planValid (w : Word) : Ensures (execHdivWrite w s) PlanValid := by
  refine .live h fun _ => ?_
  split_ifs
  · exact h.finish (.of_sync id)
  · exact h.finishDevice (.same s) _

/-- A write goes to the pending bank, and only while no switch is pending (02 R25). -/
theorem execPendingBankWrite_planValid (w : Word) : Ensures (execPendingBankWrite w s) PlanValid := by
  refine tableAccess_ensures s h fun _ _ => ?_
  unfold State.writePending
  split
  · exact h.of_keeps (.of_sync id)
  · rename_i htarget
    split
    · rename_i u _
      obtain ⟨hN, hactive, -, hslots⟩ := h
      have hwritten : PlanValid { s with
          map := s.map.setBank s.map.active.other (s.map.pendingBank.set (Fin.ofNat 64 s.host.index) u) } :=
        .of_unpending (by simpa using htarget) (by simpa using hN) (by simpa using hactive) fun hsync =>
          (hslots hsync).trans (s.map.setBank_checkedN _ _).symm
      exact hwritten.of_keeps (.of_sync id)
    · exact h.of_keeps (.of_sync id)

theorem execChannelCounterRead_planValid : Ensures (execChannelCounterRead s) PlanValid :=
  tableAccess_ensures s h fun _ _ => h.of_keeps (.of_sync id)

theorem execHighwayCounterRead_planValid : Ensures (execHighwayCounterRead s) PlanValid :=
  tableAccess_ensures s h fun _ _ => h.of_keeps (.of_sync id)

/-! ### Synchronisation and frames -/

theorem execAcquirePulse_planValid (clock : Nat) : Ensures (execAcquirePulse clock s) PlanValid := by
  refine .live h fun _ => ?_
  split_ifs
  · exact h.finish (.of_sync id)
  · exact h.finish (.of_sync id)
  · exact .next h
  · exact .next h

theorem execCandidateHeader_planValid (line : SlotBits) : Ensures (execCandidateHeader line s) PlanValid := by
  have ht := h.takeDue
  have hhwi := s.takeDue_hwi
  refine .live h fun _ => ?_
  dsimp only
  generalize s.takeDue = t at ht hhwi ⊢
  split_ifs with hacq
  · have hon : t.hwi.sync ≠ .off := by rw [hhwi, hacq.1]; decide
    split
    · exact ht.finish (.of_sync fun _ => hon)
    · exact ht.finish (.of_sync id)
  · exact .next h

theorem execSyncMiss_planValid : Ensures (execSyncMiss s) PlanValid := by
  have ht := h.takeDue
  have hhwi := s.takeDue_hwi
  refine .live h fun _ => ?_
  dsimp only
  generalize s.takeDue = t at ht hhwi ⊢
  split_ifs with hmiss
  · have hon : t.hwi.sync ≠ .off := by rw [hhwi, hmiss.2.1]; decide
    exact ht.finish (.of_sync fun _ => hon)
  · exact .next h

theorem execHoldoverMiss_planValid : Ensures (execHoldoverMiss s) PlanValid := by
  have ht := h.takeDue
  have hhwi := s.takeDue_hwi
  refine .live h fun _ => ?_
  generalize s.takeDue = t at ht hhwi ⊢
  split_ifs with hmiss
  · have hon : t.hwi.sync ≠ .off := by rw [hhwi, hmiss.2.1]; decide
    exact ht.finish (.of_sync fun _ => hon)
  · exact .next h

theorem execMisplacedPulse_planValid (bit : Nat) : Ensures (execMisplacedPulse bit s) PlanValid := by
  have ht := h.takeDue
  have hhwi := s.takeDue_hwi
  refine .live h fun _ => ?_
  dsimp only
  generalize s.takeDue = t at ht hhwi ⊢
  split_ifs with hmisplaced
  · have hon : t.hwi.sync ≠ .off := hhwi ▸ Highway.sync_ne_off_of_followerRuns hmisplaced.1
    exact ht.finish (.of_sync fun _ => hon)
  · exact ht.finish (.of_sync id)
  · exact .next h
  · exact .next h

theorem execPulseAtExpectedBit_planValid : Ensures (execPulseAtExpectedBit s) PlanValid := by
  have ht := h.takeDue
  have hhwi := s.takeDue_hwi
  refine .live h fun _ => ?_
  dsimp only
  generalize s.takeDue = t at ht hhwi ⊢
  split_ifs with hexpected
  · have hon : t.hwi.sync ≠ .off := hhwi ▸ Highway.sync_ne_off_of_followerRuns hexpected.1
    exact ht.finish (.of_sync fun _ => hon)
  · exact ht.finish (.of_sync id)
  · exact .next h
  · exact .next h

theorem execFollowerHeaderSlot_planValid (line : SlotBits) : Ensures (execFollowerHeaderSlot line s) PlanValid := by
  have ht := h.takeDue
  refine .live h fun _ => ?_
  generalize s.takeDue = t at ht ⊢
  split_ifs
  · exact ht.finish (((KeepsPlan.inFollowerFrame t).trans (.checkHeader _ line)).trans (.frameStart _))
  · exact .next h

theorem execMasterHeaderSlot_planValid (line : SlotBits) : Ensures (execMasterHeaderSlot line s) PlanValid := by
  have ht := h.takeDue
  refine .live h fun _ => ?_
  dsimp only
  generalize s.takeDue = t at ht ⊢
  have hframe := KeepsPlan.inMasterFrame t
  split_ifs
  · exact ht.finish (hframe.trans (.of_sync fun hoff => absurd rfl hoff))
  · exact ht.finish (hframe.trans (.frameStart _))
  · exact .next h

theorem execMapSwitch_planValid : Ensures (execMapSwitch s) PlanValid :=
  .live h fun _ => h.mapTest.finish (.same _)

/-! ### Slots -/

theorem execTxdataOffer_planValid (n : Slot) : Ensures (execTxdataOffer n s) PlanValid := by
  have ht := h.takeDue
  refine .live h fun _ => ?_
  dsimp only
  generalize s.takeDue = t at ht ⊢
  split
  · rename_i c _ _
    split
    · unfold State.driveAnswer
      split
      · exact ht.finish (.of_sync id)
      · split_ifs
        · exact ht.finish (.of_sync id)
        · exact .fault _
    · exact ht.finish (.enterSlot t n)
  · exact .next h

theorem execTxcontrolOffer_planValid (n : Slot) : Ensures (execTxcontrolOffer n s) PlanValid := by
  have ht := h.takeDue
  refine .live h fun _ => ?_
  dsimp only
  generalize s.takeDue = t at ht ⊢
  split
  · have hk := KeepsPlan.of_counts (.arbitrate t)
    split
    · rename_i payload t1 ht1
      rw [ht1] at hk
      exact ht.finish (hk.trans (.of_sync id))
    · rename_i t1 ht1
      rw [ht1] at hk
      exact ht.finish (hk.trans (.enterSlot t1 n))
  · exact .next h

theorem execRxdataWord_planValid (n : Slot) (line : SlotBits) : Ensures (execRxdataWord n line s) PlanValid := by
  have ht := h.takeDue
  refine .live h fun _ => ?_
  dsimp only
  generalize s.takeDue = t at ht ⊢
  split
  · split_ifs
    · exact .fault _
    · exact ht.finish ((KeepsPlan.enterSlot t n).trans (.of_counts ((Counts.screen _ _).trans (.receiveData _ _ _))))
  · exact .next h

theorem execRxcontrolWord_planValid (n : Slot) (line : SlotBits) : Ensures (execRxcontrolWord n line s) PlanValid := by
  have ht := h.takeDue
  refine .live h fun _ => ?_
  dsimp only
  generalize s.takeDue = t at ht ⊢
  split
  · exact ht.finish ((KeepsPlan.enterSlot t n).trans (.of_counts ((Counts.screen _ _).trans (.receiveControl _ _ _))))
  · exact .next h

theorem execUnusedSlotWord_planValid (n : Slot) (line : SlotBits) : Ensures (execUnusedSlotWord n line s) PlanValid := by
  have ht := h.takeDue
  refine .live h fun _ => ?_
  dsimp only
  generalize s.takeDue = t at ht ⊢
  split
  · exact ht.finish ((KeepsPlan.enterSlot t n).trans (.of_counts (.disposeUnused _ _)))
  · exact .next h

theorem execTxdataReport_planValid (line : SlotBits) : Ensures (execTxdataReport line s) PlanValid := by
  have hend := KeepsPlan.endLine s
  refine .live h fun _ => ?_
  split
  · exact .next h
  · dsimp only
    split
    · exact h.finish ((hend _).trans (.of_counts (.reportCredit _ _ _)))
    · exact h.finish ((hend _).trans (.of_sync id))
    · exact h.finish ((hend _).trans (.of_sync id))
    · exact h.finish (hend _)
    · exact .next h

theorem execTxcontrolReport_planValid (line : SlotBits) : Ensures (execTxcontrolReport line s) PlanValid := by
  have hend := KeepsPlan.endLine s
  refine .live h fun _ => ?_
  split
  · exact .next h
  · split
    · exact h.finish ((hend _).trans (.of_counts (.settleControl _ _)))
    all_goals exact .next h

end

/-! ### Every command -/

theorem exec_planValid (i : Instr) {s : State} (h : PlanValid s) : Ensures (exec i s) PlanValid := by
  cases hb : besideHighway i with
  | true => exact (exec_offHighway s hb).mono fun t ht => h.of_keeps (.of_off ht)
  | false =>
    cases i
    case start => exact execStart_planValid h
    case stop => exact execStop_planValid h
    case switch => exact execSwitch_planValid h
    case cancel => exact execCancel_planValid h
    case softreset => exact execSoftreset_planValid h
    case resetPin asserted => exact execResetPin_planValid h asserted
    case hcfgWrite w => exact execHcfgWrite_planValid h w
    case hdivWrite w => exact execHdivWrite_planValid h w
    case pendingBankWrite w => exact execPendingBankWrite_planValid h w
    case channelCounterRead => exact execChannelCounterRead_planValid h
    case highwayCounterRead => exact execHighwayCounterRead_planValid h
    case acquirePulse clock => exact execAcquirePulse_planValid h clock
    case candidateHeader line => exact execCandidateHeader_planValid h line
    case syncMiss => exact execSyncMiss_planValid h
    case holdoverMiss => exact execHoldoverMiss_planValid h
    case misplacedPulse bit => exact execMisplacedPulse_planValid h bit
    case pulseAtExpectedBit => exact execPulseAtExpectedBit_planValid h
    case followerHeaderSlot line => exact execFollowerHeaderSlot_planValid h line
    case masterHeaderSlot line => exact execMasterHeaderSlot_planValid h line
    case mapSwitch => exact execMapSwitch_planValid h
    case txdataOffer n => exact execTxdataOffer_planValid h n
    case txdataReport line => exact execTxdataReport_planValid h line
    case txcontrolOffer n => exact execTxcontrolOffer_planValid h n
    case txcontrolReport line => exact execTxcontrolReport_planValid h line
    case rxdataWord n line => exact execRxdataWord_planValid h n line
    case rxcontrolWord n line => exact execRxcontrolWord_planValid h n line
    case unusedSlotWord n line => exact execUnusedSlotWord_planValid h n line
    all_goals cases hb

/-- Settles O12: each command keeps the plan valid, and the queue of commands is no part of it. -/
theorem slotPlanStaysValid : Obligations.SlotPlanStaysValid := by
  unfold Obligations.SlotPlanStaysValid
  intro s t h hstep
  unfold step at hstep
  split at hstep
  · cases hstep
    exact h
  · rename_i i rest _
    exact exec_planValid i (s := { s with pending := rest }) h t hstep

end Sys2Proof.Machine
end

section
/-! SUPPORT. The commands of the Slot Map, the completion queue's head, and the writes through the table window (02 R25,
R27, R29, R33, 03 R38, R39, R45, 09 R152, 11 R171). -/

namespace Sys2Proof.Machine

-- One theorem after another, as in the tests: many at once ask for more threads than there are.
set_option Elab.async false

/-! ### SWITCH and MAP_SWITCH (02 R27, R29) -/

section
variable {s : State} (hlive : s.resetPin = false)
include hlive

/-- SWITCH while a switch is pending. -/
theorem exec_switch_pending (ht : s.map.target ≠ none) : exec .switch s = finishDevice s .wrongState :=
  (whenLive_live _ hlive).trans (if_pos (Option.isSome_iff_ne_none.mpr ht))

/-- SWITCH with no switch pending, by the validation of the pending bank and the sync state. -/
theorem exec_switch_unpending (ht : s.map.target = none) :
    exec .switch s =
      if ¬ txControlCount s.map.pendingBank s.slots ≤ 1 then finishDevice s .badConfig
      else if s.hwi.sync = .off then
        finishDevice ({ s with map := { s.map.swap with checkedN := s.slots } }.raise .mapSwitched) .done
      else finishDevice { s with map := { s.map with target := some s.host.darg } } .done := by
  refine (whenLive_live _ hlive).trans ((if_neg (by simp [ht])).trans ?_)
  simp only [Bool.not_eq_true', ← Bool.not_eq_true, bankValid_iff]

/-- MAP_SWITCH makes the frame-start test. -/
theorem exec_mapSwitch : exec .mapSwitch s = .next s.mapTest.evaluate := whenLive_live _ hlive

end

/-- Settles O33: the swap, SWITCH by its order of tests, and the frame-start test by the distance to the target. -/
theorem mapSwitches : Obligations.MapSwitches := by
  unfold Obligations.MapSwitches
  refine ⟨⟨fun m => by rw [m.swap_eq]; exact ⟨rfl, rfl, rfl, rfl, rfl, rfl⟩, fun s hlive =>
    ⟨exec_switch_pending hlive, fun ht hcount => ?_, fun ht hcount hoff => ?_, fun ht hcount hon => ?_⟩⟩,
    fun s hlive => ⟨exec_mapSwitch hlive, fun hdue => ?_, fun f hdue => ⟨fun ht => ?_, fun target ht =>
      ⟨fun hd => ?_, fun hd => ?_, fun hlow hhigh => ?_⟩⟩⟩⟩
  · rw [exec_switch_unpending hlive ht, if_pos (by omega)]
    rfl
  · rw [exec_switch_unpending hlive ht, if_neg (by omega), if_pos hoff]
    rfl
  · rw [exec_switch_unpending hlive ht, if_neg (by omega), if_neg hon]
    rfl
  · rw [exec_mapSwitch hlive, State.mapTest_of_not_due s hdue]
  · rw [exec_mapSwitch hlive, State.mapTest_idle hdue ht]
  · rw [exec_mapSwitch hlive, State.mapTest_on_target hdue ht hd]
    rfl
  · rw [exec_mapSwitch hlive, State.mapTest_late hdue ht hd]
    rfl
  · rw [exec_mapSwitch hlive, State.mapTest_early hdue ht hlow hhigh]

/-! ### CANCEL and POPCQ (02 R33, 09 R152) -/

/-- Settles O34: each command with something to remove, and with nothing. -/
theorem cancelAndPopAct : Obligations.CancelAndPopAct := by
  unfold Obligations.CancelAndPopAct
  refine ⟨fun s hlive => ⟨fun ht => ?_, fun ht => ?_⟩, fun s hlive => ⟨fun e rest he => ?_, fun he => ?_⟩⟩
  · exact (whenLive_live _ hlive).trans (if_pos (Option.isSome_iff_ne_none.mpr ht))
  · exact (whenLive_live _ hlive).trans (if_neg (by simp [ht]))
  · exact (whenLive_live _ hlive).trans (by rw [he]; rfl)
  · exact (whenLive_live _ hlive).trans (by rw [he]; rfl)

/-! ### Writes to the pending bank (02 R25) -/

/-- The use codes 5 to 7 name no entry. -/
theorem mapUseOfWord_eq_none {w : Word} (h : 5 ≤ (w.extractLsb' 8 3).toNat) : mapUseOfWord w = none := by
  unfold mapUseOfWord
  dsimp only
  split
  case h_6 => rfl
  all_goals omega

/-- The five use codes name their entries (11 Table 35). -/
theorem mapUseOfWord_eq_some {w : Word} {u : MapUse}
    (h : ((w.extractLsb' 8 3).toNat = 0 ∧ u = .unused) ∨
      ((w.extractLsb' 8 3).toNat = 1 ∧ u = .txData (w.extractLsb' 0 4).toFin) ∨
      ((w.extractLsb' 8 3).toNat = 2 ∧ u = .rxData (w.extractLsb' 0 4).toFin) ∨
      ((w.extractLsb' 8 3).toNat = 3 ∧ u = .txControl) ∨
      ((w.extractLsb' 8 3).toNat = 4 ∧ u = .rxControl (w.extractLsb' 0 4))) : mapUseOfWord w = some u := by
  unfold mapUseOfWord
  rcases h with ⟨hcode, rfl⟩ | ⟨hcode, rfl⟩ | ⟨hcode, rfl⟩ | ⟨hcode, rfl⟩ | ⟨hcode, rfl⟩ <;> rw [hcode] <;> rfl

section
variable {s : State} {i : Slot} {w : Word}

theorem State.writePending_frozen (ht : s.map.target ≠ none) : s.writePending i w = s.setDeviceResult .wrongState :=
  if_pos (Option.isSome_iff_ne_none.mpr ht)

theorem State.writePending_unlisted (ht : s.map.target = none) (hw : mapUseOfWord w = none) :
    s.writePending i w = s.setDeviceResult .badConfig := by
  simp only [State.writePending, ht, hw, Option.isSome_none, Bool.false_eq_true, if_false]

theorem State.writePending_taken {u : MapUse} (ht : s.map.target = none) (hw : mapUseOfWord w = some u) :
    s.writePending i w = { s with map := s.map.setBank s.map.active.other (s.map.pendingBank.set i u) } := by
  simp only [State.writePending, ht, hw, Option.isSome_none, Bool.false_eq_true, if_false]

end

/-! ### Writes to the Region Table and to configuration words (03 R38, R39, R45) -/

/-- A channel takes a new region or mode in CLOSED with no stored words (03 R39). -/
theorem Channel.reconfigurable_iff (ch : Channel) :
    ch.reconfigurable = true ↔ ch.link.state = .closed ∧ ch.hasStoredWords = false := by
  simp [Channel.reconfigurable]

theorem Channel.not_reconfigurable_iff (ch : Channel) :
    ch.reconfigurable = false ↔ ch.link.state ≠ .closed ∨ ch.hasStoredWords = true := by
  rw [← Bool.not_eq_true, ch.reconfigurable_iff, not_and_or, Bool.not_eq_false]

section
variable {s : State} {i : Nat} {w : Word}

theorem State.writeRegion_oversized (h : 65 ≤ (w.extractLsb' 0 7).toNat) :
    s.writeRegion i w = s.setDeviceResult .badConfig := by
  simp only [State.writeRegion, regionOfWord, if_neg (show ¬ (w.extractLsb' 0 7).toNat ≤ 64 by omega)]

variable (hsize : (w.extractLsb' 0 7).toNat ≤ 64)
include hsize

theorem State.writeRegion_refused (h : (s.chan (chanOfIndex i 2)).reconfigurable = false) :
    s.writeRegion i w = s.setDeviceResult .wrongState := by
  simp only [State.writeRegion, regionOfWord, if_pos hsize, h, Bool.false_eq_true, if_false]

theorem State.writeRegion_taken (h : (s.chan (chanOfIndex i 2)).reconfigurable = true) :
    s.writeRegion i w = s.modChan (chanOfIndex i 2) (fun ch =>
      if i % 2 = 0 then ch.giveTxRegion ⟨(w.extractLsb' 8 8).toNat, (w.extractLsb' 0 7).toNat⟩
      else ch.giveRxRegion ⟨(w.extractLsb' 8 8).toNat, (w.extractLsb' 0 7).toNat⟩) := by
  simp only [State.writeRegion, regionOfWord, if_pos hsize, if_pos h]

end

section
variable {s : State} {i : Nat} {w : Word}

theorem State.writeConfig_out_of_range (h : (s.chan (chanOfIndex i 6)).config.write (i % 6) w = none) :
    s.writeConfig i w = s.setDeviceResult .badConfig := by
  simp only [State.writeConfig, h]

variable {g : ChanConfig} (hg : (s.chan (chanOfIndex i 6)).config.write (i % 6) w = some g)
include hg

theorem State.writeConfig_refused (hi : i % 6 = 0) (h : (s.chan (chanOfIndex i 6)).reconfigurable = false) :
    s.writeConfig i w = s.setDeviceResult .wrongState := by
  simp only [State.writeConfig, hg, if_pos (And.intro hi h)]

theorem State.writeConfig_taken (h : i % 6 ≠ 0 ∨ (s.chan (chanOfIndex i 6)).reconfigurable = true) :
    s.writeConfig i w = s.modChan (chanOfIndex i 6) (fun ch => { ch with config := g }) := by
  have htaken : ¬ (i % 6 = 0 ∧ (s.chan (chanOfIndex i 6)).reconfigurable = false) := by
    rintro ⟨hi, hr⟩
    rcases h with h | h
    · exact h hi
    · rw [hr] at h
      cases h
  simp only [State.writeConfig, hg, if_neg htaken]

end

/-! ### Ranges of the configuration words (03 R38, 11 Table 35) -/

section
variable (g g' : ChanConfig) (w : Word)

/-- Word 0 is in range when its mode field is the code of a mode. -/
theorem ChanConfig.write_zero_iff :
    g.write 0 w = some g' ↔ ∃ m : Mode, m.code = w.extractLsb' 8 2 ∧
      g' = { g with mode := m, peerStation := w.extractLsb' 4 4, peerChannel := w.extractLsb' 0 4 } := by
  have hcode : ∀ m : Mode, m.code = w.extractLsb' 8 2 →
      g.write 0 w = some { g with
        mode := m, peerStation := w.extractLsb' 4 4, peerChannel := w.extractLsb' 0 4 } := by
    intro m hm
    unfold ChanConfig.write
    rw [← hm]
    cases m <;> rfl
  constructor
  · intro h
    have hsome : ∃ m : Mode, m.code = w.extractLsb' 8 2 := by
      simp only [ChanConfig.write] at h
      split at h
      case h_1 hm => exact ⟨.credit, BitVec.eq_of_toNat_eq hm.symm⟩
      case h_2 hm => exact ⟨.stream, BitVec.eq_of_toNat_eq hm.symm⟩
      case h_3 => cases h
    obtain ⟨m, hm⟩ := hsome
    exact ⟨m, hm, Option.some.inj (h.symm.trans (hcode m hm))⟩
  · rintro ⟨m, hm, rfl⟩
    exact hcode m hm

/-- Word 1 is in range when its notify field is the code of a notify mode and its length is 1 to 256. -/
theorem ChanConfig.write_one_iff :
    g.write 1 w = some g' ↔ ∃ n : Notify, n.code = w.extractLsb' 12 2 ∧
      1 ≤ (w.extractLsb' 0 9).toNat ∧ (w.extractLsb' 0 9).toNat ≤ 256 ∧
      g' = { g with notify := n, maxLength := (w.extractLsb' 0 9).toNat } := by
  have hcode : ∀ n : Notify, n.code = w.extractLsb' 12 2 →
      1 ≤ (w.extractLsb' 0 9).toNat ∧ (w.extractLsb' 0 9).toNat ≤ 256 →
      g.write 1 w = some { g with notify := n, maxLength := (w.extractLsb' 0 9).toNat } := by
    intro n hn hlen
    unfold ChanConfig.write
    dsimp only
    rw [if_pos hlen, ← hn]
    cases n <;> rfl
  constructor
  · intro h
    have hsome : (∃ n : Notify, n.code = w.extractLsb' 12 2) ∧
        1 ≤ (w.extractLsb' 0 9).toNat ∧ (w.extractLsb' 0 9).toNat ≤ 256 := by
      simp only [ChanConfig.write] at h
      split at h
      case isTrue hlen =>
        refine ⟨?_, hlen⟩
        split at h
        case h_1 hn => exact ⟨.off, BitVec.eq_of_toNat_eq hn.symm⟩
        case h_2 hn => exact ⟨.message, BitVec.eq_of_toNat_eq hn.symm⟩
        case h_3 hn => exact ⟨.level, BitVec.eq_of_toNat_eq hn.symm⟩
        case h_4 => cases h
      case isFalse => cases h
    obtain ⟨⟨n, hn⟩, hlen⟩ := hsome
    exact ⟨n, hn, hlen.1, hlen.2, Option.some.inj (h.symm.trans (hcode n hn hlen))⟩
  · rintro ⟨n, hn, hlow, hhigh, rfl⟩
    exact hcode n hn ⟨hlow, hhigh⟩

/-- Words 2 and 5 are always in range. -/
theorem ChanConfig.write_two_iff : g.write 2 w = some g' ↔ g' = { g with fillValue := w } :=
  Option.some_inj.trans eq_comm

theorem ChanConfig.write_five_iff : g.write 5 w = some g' ↔ g' = { g with enables := w.extractLsb' 0 6 } :=
  Option.some_inj.trans eq_comm

/-- Words 3 and 4 hold thresholds of at most 1024. -/
theorem ChanConfig.write_three_iff :
    g.write 3 w = some g' ↔ 1 ≤ (w.extractLsb' 0 11).toNat ∧ (w.extractLsb' 0 11).toNat ≤ 1024 ∧
      g' = { g with rxThreshold := (w.extractLsb' 0 11).toNat } := by
  refine Option.ite_none_right_eq_some.trans ?_
  rw [Option.some_inj, eq_comm (b := g'), and_assoc]

theorem ChanConfig.write_four_iff :
    g.write 4 w = some g' ↔ (w.extractLsb' 0 11).toNat ≤ 1024 ∧
      g' = { g with txThreshold := (w.extractLsb' 0 11).toNat } := by
  refine Option.ite_none_right_eq_some.trans ?_
  rw [Option.some_inj, eq_comm (b := g')]

end

/-- Settles O47: the writes through tables 0, 2 and 3 by their tests, then the ranges of the configuration words. -/
theorem tableWritesAreTakenOrRefused : Obligations.TableWritesAreTakenOrRefused := by
  unfold Obligations.TableWritesAreTakenOrRefused
  refine ⟨fun w s next hlive hnext => ?_, fun g g' w => ⟨g.write_zero_iff g' w, g.write_one_iff g' w,
    g.write_two_iff g' w, g.write_three_iff g' w, g.write_four_iff g' w, g.write_five_iff g' w⟩⟩
  subst hnext
  refine ⟨fun htable => ?_, fun htable => ?_, fun htable ch hch => ?_⟩
  · have hexec : exec (.pendingBankWrite w) s =
        finish (s.writePending (Fin.ofNat 64 s.host.index) w).advanceIndex :=
      tableAccess_taken hlive (by simp [htable])
    refine ⟨fun ht => ?_, fun ht hcode => ?_, fun u ht hu => ?_⟩
    · rw [hexec, State.writePending_frozen ht]
      rfl
    · rw [hexec, State.writePending_unlisted ht (mapUseOfWord_eq_none hcode)]
      rfl
    · rw [hexec, State.writePending_taken ht (mapUseOfWord_eq_some hu)]
      rfl
  · have hexec : exec (.regionTableWrite w) s = finish (s.writeRegion s.host.index w).advanceIndex :=
      tableAccess_taken hlive (by simp [htable])
    refine ⟨fun hsize => ?_, fun hsize ch hch => ⟨fun hstate => ?_, fun hclosed hempty r hr => ?_⟩⟩
    · rw [hexec, State.writeRegion_oversized hsize]
      rfl
    · subst hch
      rw [hexec, State.writeRegion_refused hsize ((Channel.not_reconfigurable_iff _).mpr hstate)]
      rfl
    · subst hch hr
      rw [hexec, State.writeRegion_taken hsize ((Channel.reconfigurable_iff _).mpr ⟨hclosed, hempty⟩)]
      rfl
  · subst hch
    have hexec : exec (.configWordWrite w) s = finish (s.writeConfig s.host.index w).advanceIndex :=
      tableAccess_taken hlive (by simp [htable])
    refine ⟨fun hrange => ?_, fun g hg => ⟨fun hstate => ?_, fun hstate => ?_⟩⟩
    · rw [hexec, State.writeConfig_out_of_range hrange]
      rfl
    · rw [hexec, State.writeConfig_refused hg hstate.1 ((Channel.not_reconfigurable_iff _).mpr hstate.2)]
      rfl
    · rw [hexec, State.writeConfig_taken hg (hstate.imp_right (Channel.reconfigurable_iff _).mpr)]
      rfl

end Sys2Proof.Machine
end

section
/-! SUPPORT. What the operations on one channel do to its regions, its link state and its StateChange latch (03 R45,
R47): regions stay, a change of link state is latched and stays so, and but for a few moves no channel leaves CLOSED. -/

namespace Sys2Proof.Machine

-- One theorem after another, as in the tests: many at once ask for more threads than there are.
set_option Elab.async false

/-- From `a` to `b` the regions stay, a change of link state leaves StateChange latched, and a latched one stays. -/
structure Channel.Reports (a b : Channel) : Prop where
  txRegion : b.txRegion = a.txRegion
  rxRegion : b.rxRegion = a.rxRegion
  kept : a.latches.getLsbD 0 = true → b.latches.getLsbD 0 = true
  moved : b.link.state ≠ a.link.state → b.latches.getLsbD 0 = true

/-- As `Reports`, and the channel does not leave CLOSED. -/
structure Channel.Steady (a b : Channel) : Prop extends Channel.Reports a b where
  live : b.link.state ≠ .closed → a.link.state ≠ .closed

theorem Channel.Reports.trans {a b c : Channel} (h : a.Reports b) (k : b.Reports c) : a.Reports c where
  txRegion := k.txRegion.trans h.txRegion
  rxRegion := k.rxRegion.trans h.rxRegion
  kept ha := k.kept (h.kept ha)
  moved hne := by
    by_cases hb : b.link.state = a.link.state
    · exact k.moved (hb ▸ hne)
    · exact k.kept (h.moved hb)

theorem Channel.Reports.moveTo (ch : Channel) (st : LinkState) : ch.Reports (ch.moveTo st) := by
  unfold Channel.moveTo
  split
  · exact ⟨rfl, rfl, id, fun h => absurd rfl h⟩
  · exact ⟨rfl, rfl, fun _ => by simp [Channel.raise, ChEvent.position],
      fun _ => by simp [Channel.raise, ChEvent.position]⟩

/-- The state that a move leads to. -/
@[simp] theorem Channel.moveTo_state (ch : Channel) (st : LinkState) : (ch.moveTo st).link.state = st := by
  unfold Channel.moveTo
  split
  · assumption
  · rfl

namespace Channel.Steady

/-! ### What gives it -/

/-- What keeps regions and link state, and keeps StateChange latched. -/
theorem of_state {a b : Channel} (state : b.link.state = a.link.state := by rfl)
    (kept : a.latches.getLsbD 0 = true → b.latches.getLsbD 0 = true := by exact id)
    (txRegion : b.txRegion = a.txRegion := by rfl) (rxRegion : b.rxRegion = a.rxRegion := by rfl) : a.Steady b :=
  ⟨⟨txRegion, rxRegion, kept, fun h => absurd state h⟩, fun h => state ▸ h⟩

theorem same (a : Channel) : a.Steady a := of_state

/-- A channel outside CLOSED may go anywhere. -/
theorem of_live {a b : Channel} (h : a.link.state ≠ .closed) (k : a.Reports b) : a.Steady b := ⟨k, fun _ => h⟩

theorem trans {a b c : Channel} (h : a.Steady b) (k : b.Steady c) : a.Steady c :=
  ⟨h.toReports.trans k.toReports, fun hc => h.live (k.live hc)⟩

section
variable (ch : Channel)

/-! ### Link states and latches -/

theorem raise (e : ChEvent) : ch.Steady (ch.raise e) :=
  of_state (kept := fun h => by simp [Channel.raise, h])

theorem moveTo_closed : ch.Steady (ch.moveTo .closed) :=
  ⟨.moveTo ch .closed, fun h => absurd (ch.moveTo_state .closed) h⟩

theorem moveToWith_closed (cause : Cause) : ch.Steady (ch.moveToWith .closed cause) :=
  (moveTo_closed ch).trans of_state

theorem count (k : ChCounter) : ch.Steady (ch.count k) := of_state

theorem grant : ch.Steady ch.grant := by
  rw [Channel.grant_shape]
  exact of_state

/-! ### Records (08 section 8.3) -/

theorem closeOpen (mark : RxFlags → RxFlags) (last : Option Word) : ch.Steady (ch.closeOpen mark last) := by
  cases hopen : ch.rx.openRecord with
  | none =>
    rw [Channel.closeOpen_none ch mark last hopen]
    exact same ch
  | some r =>
    rw [Channel.closeOpen_some ch mark last hopen]
    refine of_state (kept := fun h => ?_)
    dsimp only
    split
    · simp [h]
    · exact h

theorem closeBroken : ch.Steady ch.closeBroken := closeOpen ch _ _

theorem rxAbort : ch.Steady ch.rxAbort := closeOpen ch _ _

theorem rxLoss : ch.Steady ch.rxLoss := (closeBroken ch).trans of_state

theorem damageOpen : ch.Steady ch.damageOpen := by
  unfold Channel.damageOpen
  split
  · exact same ch
  · exact of_state

theorem storeWord : ch.Steady ch.storeWord.1 := by
  unfold Channel.storeWord
  split
  · exact of_state
  · split <;> exact of_state

theorem loseMessage (isFirst : Bool) : ch.Steady (ch.loseMessage isFirst) :=
  ((count ch .messagesLost).trans (raise _ .rxTrouble)).trans of_state

theorem assembleStart (frame : Word) (isOnly : Bool) : ch.Steady (ch.assembleStart frame isOnly).1 := by
  have hstore : ch.Steady (ch.closeBroken.pushRecord frame).storeWord.1 :=
    ((closeBroken ch).trans (c := ch.closeBroken.pushRecord frame) of_state).trans (storeWord _)
  unfold Channel.assembleStart
  dsimp only
  split
  · exact (closeBroken ch).trans (loseMessage _ _)
  · split
    · exact hstore.trans (closeOpen _ (fun f => f) (some frame))
    · exact hstore

theorem assembleRest (frame : Word) (isLast : Bool) : ch.Steady (ch.assembleRest frame isLast).1 := by
  unfold Channel.assembleRest
  split
  · exact (count ch .orphans).trans (raise _ .rxTrouble)
  · rename_i r _
    have hstore : ch.Steady
        (if ch.config.maxLength ≤ r.length then
          (ch.modNewest (fun r => { r with flags := { r.flags with truncated := true } }), false)
        else ch.storeWord).1 := by
      split
      · exact of_state
      · exact storeWord ch
    dsimp only
    split
    · exact hstore.trans (closeOpen _ (fun f => f) (some frame))
    · exact hstore

theorem assemble (frame : Word) (k : Kind) : ch.Steady (ch.assemble frame k).1 := by
  cases k
  case first => exact assembleStart ch frame false
  case only => exact assembleStart ch frame true
  case middle => exact assembleRest ch frame false
  case last => exact assembleRest ch frame true
  all_goals exact same ch

/-! ### Words from an RxData slot (06 R98 to R101, 08 R131 to R137) -/

theorem violation (frame : Word) (k : Kind) : ch.Steady (ch.violation frame k) := by
  have hcount : ch.Steady ((ch.count .creditViolations).raise .rxTrouble) :=
    (count ch .creditViolations).trans (raise _ .rxTrouble)
  unfold Channel.violation
  cases k
  case first => exact (hcount.trans (closeBroken _)).trans of_state
  case only => exact (hcount.trans (closeBroken _)).trans of_state
  case last => exact ((hcount.trans (damageOpen _)).trans (closeOpen _ _ _)).trans of_state
  case middle => exact hcount.trans (damageOpen _)
  all_goals exact hcount

theorem creditWord (frame : Word) (k : Kind) : ch.Steady (ch.creditWord frame k).1 := by
  have hcount : ch.Steady (ch.countArrival k.starts) := of_state
  unfold Channel.creditWord
  dsimp only
  split
  · exact violation ch frame k
  · split
    · refine Channel.Steady.trans (b := if k = .last then _ else _) ?_ (grant _)
      split
      · exact hcount.trans of_state
      · exact hcount
    · have hopen : ch.Steady ((ch.countArrival k.starts).setDiscard false) := hcount.trans of_state
      exact (hopen.trans (assemble _ frame k)).trans (grant _)

theorem streamWord (frame : Word) (k : Kind) : ch.Steady (ch.streamWord frame k).1 := by
  unfold Channel.streamWord
  split
  · exact count ch _
  · split
    · dsimp only
      split
      · exact of_state
      · exact same ch
    · exact (of_state : ch.Steady (ch.setDiscard false)).trans (assemble _ frame k)

theorem dataWord (frame : Word) (k : Kind) : ch.Steady (ch.dataWord frame k).1 := by
  unfold Channel.dataWord
  split
  · exact creditWord ch frame k
  · exact streamWord ch frame k

theorem rxCheckError : ch.Steady ch.rxCheckError := by
  unfold Channel.rxCheckError Channel.creditCheckError
  split
  · dsimp only
    split
    · exact (damageOpen ch).trans (grant _)
    · exact ((of_state : ch.Steady (ch.countArrival false)).trans (damageOpen _)).trans (grant _)
  · exact damageOpen ch

/-! ### The sending side -/

theorem appendWord : ch.Steady ch.appendWord := by
  unfold Channel.appendWord
  split <;> exact of_state

theorem refuseWrite : ch.Steady ch.refuseWrite :=
  (of_state : ch.Steady { ch with tx := _ }).trans (raise _ .writeRefused)

theorem emptyTx : ch.Steady ch.emptyTx := by
  unfold Channel.emptyTx
  dsimp only
  split <;> exact of_state

theorem reportStreamWord : ch.Steady ch.reportStreamWord := by
  unfold Channel.reportStreamWord
  split
  · exact of_state
  · exact same ch

/-- The channel after its oldest unsent word went on the line. -/
theorem offerFifoWord (c : Chan) (mark : Bool) : ch.Steady (ch.offerFifoWord c mark).after := by
  unfold Channel.offerFifoWord
  dsimp only
  split
  · exact of_state
  · dsimp only
    split <;> exact of_state

/-- The channel after the engine's answer. -/
theorem offer {c : Chan} {a : Answer} (h : ch.offer c = some a) : ch.Steady a.after := by
  unfold Channel.offer at h
  split at h
  · unfold Channel.offerCredit at h
    split_ifs at h
    split at h
    · cases h
    · split_ifs at h
      cases h
      exact of_state
  · unfold Channel.offerStream at h
    split at h
    · split at h
      · cases h
        exact of_state
      · split at h
        · cases h
          exact offerFifoWord ch c _
        · split_ifs at h
          cases h
          exact same ch
    · cases h

/-! ### Clear-down, new epoch, highway loss -/

theorem endStarvation {before after : Channel} (h : ch.Steady after) : ch.Steady (before.endStarvation after) := by
  unfold Channel.endStarvation
  split
  · exact h.trans of_state
  · exact h

theorem clearDown : ch.Steady ch.clearDown := by
  unfold Channel.clearDown
  dsimp only
  split
  · exact (rxAbort ch).trans of_state
  · exact (rxAbort ch).trans of_state

theorem cutTx : ch.Steady ch.cutTx := by
  rw [Channel.cutTx_eq]
  exact of_state

theorem loseHighway : ch.Steady ch.loseHighway := ((cutTx ch).trans (rxLoss _)).trans of_state

end

end Channel.Steady

end Sys2Proof.Machine
end

section
/-! SUPPORT. The operations of the engines and the Link Controller that leave the Buffer Memory alone, keep the regions,
report every change of link state and take no channel out of CLOSED (03 R43, R46, R47). -/

namespace Sys2Proof.Machine

-- One theorem after another, as in the tests: many at once ask for more threads than there are.
set_option Elab.async false

/-- From `s` to `t` the Buffer Memory stayed as it was, and every channel is steady. -/
structure Steady (s t : State) : Prop where
  memory : t.memory = s.memory
  chan : ∀ c : Chan, (s.chan c).Steady (t.chan c)

/-- A reply changes no channel. -/
@[simp] theorem State.chan_queueResponse (s : State) (c d : Chan) (op : Opcode) (station channel : Address)
    (matched : Bool) : (s.queueResponse c op station channel matched).chan d = s.chan d := by
  unfold State.queueResponse
  split <;> rfl

@[simp] theorem State.chan_replyPeer (s : State) (c d : Chan) (op : Opcode) :
    (s.replyPeer c op).chan d = s.chan d := s.chan_queueResponse c d op _ _ _

namespace Steady

/-! ### What gives it -/

/-- What changes neither the memory nor a channel. -/
theorem elsewhere {s t : State} (memory : t.memory = s.memory := by rfl) (chans : t.chans = s.chans := by rfl) :
    Steady s t :=
  ⟨memory, fun c => by rw [State.chan, State.chan, chans]; exact .same _⟩

theorem same (s : State) : Steady s s := elsewhere

theorem trans {s t u : State} (h : Steady s t) (k : Steady t u) : Steady s u :=
  ⟨k.memory.trans h.memory, fun c => (h.chan c).trans (k.chan c)⟩

/-- An operation on one channel is steady when that channel is. -/
theorem of_touches {c : Chan} {s t : State} (h : TouchesOnly c s t) (hc : (s.chan c).Steady (t.chan c)) :
    Steady s t := by
  refine ⟨h.memory, fun d => ?_⟩
  by_cases hd : d = c
  · exact hd ▸ hc
  · rw [h.chan d hd]
    exact .same _

theorem setChan {s t : State} (h : Steady s t) (c : Chan) {ch : Channel} (hch : (t.chan c).Steady ch) :
    Steady s (t.setChan c ch) := by
  have htouch : TouchesOnly c t (t.setChan c ch) := .modChan c t fun _ => ch
  exact h.trans (of_touches htouch (by rwa [State.chan_setChan_same]))

theorem modChan {s t : State} (h : Steady s t) (c : Chan) {f : Channel → Channel}
    (hf : ∀ ch : Channel, ch.Steady (f ch) := by exact fun _ => .of_state) : Steady s (t.modChan c f) :=
  h.setChan c (hf _)

theorem mapChans {s t : State} (h : Steady s t) {f : Channel → Channel}
    (hf : ∀ ch : Channel, ch.Steady (f ch) := by exact fun _ => .of_state) : Steady s (t.mapChans f) := by
  refine h.trans ⟨rfl, fun c => ?_⟩
  rw [State.chan_mapChans]
  exact hf _

/-- A sequence of steady steps. -/
theorem foldl {α : Type} {f : State → α → State} (hf : ∀ s a, Steady s (f s a)) (l : List α) (s : State) :
    Steady s (l.foldl f s) := by
  induction l generalizing s with
  | nil => exact same s
  | cons a l ih => exact (hf s a).trans (ih (f s a))

theorem finish {s t : State} (h : Steady s t) : Ensures (finish t) (Steady s) := .next ⟨h.memory, h.chan⟩

theorem finishDevice {s t : State} (h : Steady s t) (r : CmdResult) : Ensures (finishDevice t r) (Steady s) :=
  .next ⟨h.memory, h.chan⟩

theorem finishChannel {s t : State} (h : Steady s t) (r : CmdResult) : Ensures (finishChannel t r) (Steady s) :=
  .next ⟨h.memory, h.chan⟩

theorem tableAccess {s act : State} {tables : List Nat} (h : Steady s act) :
    Ensures (tableAccess s tables act) (Steady s) :=
  tableAccess_ensures s (same s) fun _ _ => ⟨h.memory, h.chan⟩

end Steady

/-! ### Moves out of CLOSED: what they report (05 R74, R75, R85, R93) -/

section
variable (s : State) (c : Chan)

theorem State.enterOpen_reports : (s.chan c).Reports ((s.enterOpen c).chan c) := by
  have hmoved : (s.chan c).Reports ((s.chan c).stopAnswer.moveTo .opened) :=
    (Channel.Steady.of_state : (s.chan c).Steady (s.chan c).stopAnswer).toReports.trans (.moveTo _ _)
  unfold State.enterOpen
  rw [State.chan_modChan_same, State.chan_withdraw]
  dsimp only
  split
  · refine hmoved.trans (Channel.Steady.toReports ?_)
    exact (Channel.Steady.of_state (b := ((s.chan c).stopAnswer.moveTo .opened).newEpoch.setMarks)).trans (.grant _)
  · exact hmoved

theorem State.startOpening_reports : (s.chan c).Reports ((s.startOpening c).chan c) := by
  unfold State.startOpening
  rw [State.chan_modChan_same]
  exact (Channel.Steady.of_state (b := (s.chan c).loadAnswer s.lnk)).toReports.trans (.moveTo _ _)

theorem Steady.flushTx (status : CqStatus) : Steady s (s.flushTx c status) := by
  unfold State.flushTx
  dsimp only
  split
  · exact (elsewhere).modChan c .emptyTx
  · exact (same s).modChan c .emptyTx

theorem State.enterFault_reports (cause : Cause) : (s.chan c).Reports ((s.enterFault c cause).chan c) := by
  have hflush := (Steady.flushTx s c .flushed).chan c
  unfold State.enterFault
  rw [State.chan_withdraw, State.chan_modChan_same]
  have hstop : (s.chan c).Steady ((s.flushTx c .flushed).chan c).stopTimers := hflush.trans .of_state
  exact (hstop.toReports.trans (.moveTo _ .fault)).trans (Channel.Steady.of_state).toReports

end

namespace Steady

/-! ### Link operations (05 section 5.2 to 5.6) -/

section
variable (s : State) (c : Chan)

theorem queueResponse (op : Opcode) (station channel : Address) (matched : Bool) :
    Steady s (s.queueResponse c op station channel matched) :=
  of_touches (.queueResponse c s op station channel matched) (by rw [State.chan_queueResponse]; exact .same _)

theorem replyPeer (op : Opcode) : Steady s (s.replyPeer c op) := queueResponse s c op _ _ _

theorem closeConnected (cause : Cause) : Steady s (s.closeConnected c cause) := by
  have hclear := (flushTx s c (if cause = .peerReset then .peerReset else .flushed)).modChan c
    (f := fun ch => ch.clearDown.moveToWith .closed cause) fun ch =>
      (Channel.Steady.clearDown ch).trans (.moveToWith_closed _ _)
  exact hclear.trans elsewhere

theorem closeUnconnected (cause : Cause) : Steady s (s.closeUnconnected c cause) :=
  (flushTx s c .flushed).modChan c fun ch =>
    (Channel.Steady.of_state (b := ch.stopTimers)).trans (.moveToWith_closed _ _)

theorem closeUnopened : Steady s (s.closeUnopened c) := (closeUnconnected s c .closed).trans elsewhere

theorem peerRestart : Steady s (s.peerRestart c) := by
  have hcleared := (flushTx s c .peerReset).modChan c (f := fun ch => ch.rxAbort.zeroCredits.clearMarks) fun ch =>
    (Channel.Steady.rxAbort ch).trans .of_state
  unfold State.peerRestart
  exact ((hcleared.trans (replyPeer _ c .openAck)).trans elsewhere).modChan c fun ch =>
    (Channel.Steady.grant ch).trans .of_state

section
variable (h : (s.chan c).link.state ≠ .closed)
include h

theorem enterOpen : Steady s (s.enterOpen c) := of_touches (.enterOpen c s) (.of_live h (s.enterOpen_reports c))

theorem startOpening : Steady s (s.startOpening c) :=
  of_touches (.startOpening c s) (.of_live h (s.startOpening_reports c))

theorem enterFault (cause : Cause) : Steady s (s.enterFault c cause) :=
  of_touches (.enterFault c s cause) (.of_live h (s.enterFault_reports c cause))

/-- A move of a channel outside CLOSED, after a change of its other parts. -/
theorem moveTo (st : LinkState) {f : Channel → Channel} (hf : (s.chan c).Steady (f (s.chan c))) :
    Steady s (s.modChan c fun ch => (f ch).moveTo st) :=
  (same s).setChan c (.of_live h (hf.toReports.trans (.moveTo _ st)))

end

theorem completeDrain : Steady s (s.completeDrain c) := by
  unfold State.completeDrain
  dsimp only
  split
  · rename_i hdrain
    have hlive : (s.chan c).link.state ≠ .closed := by rw [hdrain]; decide
    exact of_touches ((TouchesOnly.queueRequest c s _).trans (.modChan c _ _)) <| by
      rw [State.chan_modChan_same]
      exact .of_live hlive ((Channel.Steady.of_state (b := (s.chan c).loadAnswer s.lnk)).toReports.trans (.moveTo _ _))
  · exact (replyPeer s c _).trans (closeConnected _ c _)
  · exact closeConnected s c _
  · exact same s

theorem takeDrain : Steady s (s.takeDrain c) := by
  unfold State.takeDrain
  split
  · exact completeDrain s c
  · exact same s

theorem takeAnswerExpiry : Steady s (s.takeAnswerExpiry c) := by
  unfold State.takeAnswerExpiry
  dsimp only
  split
  · split
    · split
      · exact (elsewhere).modChan c
      · split
        · rename_i hopening
          exact enterFault s c (by rw [hopening]; decide) _
        · exact closeConnected s c _
    · exact (same s).modChan c
  · exact same s

theorem takeProbeExpiry : Steady s (s.takeProbeExpiry c) := by
  unfold State.takeProbeExpiry
  split
  · exact (elsewhere).modChan c
  · exact same s

theorem takeRefresh : Steady s s.takeRefresh := by
  unfold State.takeRefresh State.refreshMarks
  split
  · refine (elsewhere).mapChans fun ch => ?_
    split
    · exact .of_state
    · exact .same ch
  · exact same s

theorem mapTest : Steady s s.mapTest := by
  rw [State.mapTest_frame]
  exact elsewhere

theorem takeDue : Steady s s.takeDue :=
  ((((mapTest s).trans (foldl takeAnswerExpiry _ _)).trans (foldl takeProbeExpiry _ _)).trans (takeRefresh _)).trans
    (foldl takeDrain _ _)

/-! ### Channel commands (05 R77, R78) -/

theorem closeCredit (h : (s.chan c).link.state ≠ .closed) : Steady s (s.closeCredit c) := by
  have hdrained : Steady s (s.modChan c fun ch => ch.dropComposing.moveTo .drain) := moveTo s c h .drain .of_state
  unfold State.closeCredit
  dsimp only
  split
  · exact hdrained.trans (completeDrain _ c)
  · exact hdrained

theorem closeStream (h : (s.chan c).link.state ≠ .closed) : Steady s (s.closeStream c) := by
  have hdrained : Steady s (s.modChan c fun ch =>
      Channel.moveTo (if ch.tx.openMessage then { ch with tx := ch.tx.endOpenMessage } else ch) .drain) := by
    refine moveTo s c h .drain (f := fun ch => if ch.tx.openMessage then { ch with tx := _ } else ch) ?_
    split
    · exact .of_state
    · exact .same _
  unfold State.closeStream
  dsimp only
  split
  · exact hdrained.trans (completeDrain _ c)
  · exact hdrained

theorem resetConnected : Steady s (s.resetConnected c) := by
  unfold State.resetConnected
  split
  · exact Steady.trans (t := s.queueRequest c .reset) elsewhere (closeConnected _ c _)
  · exact closeConnected s c _

/-! ### Received control words (05 section 5.4) -/

theorem whenConnected {f : Channel → Channel} (hf : ∀ ch : Channel, ch.Steady (f ch)) :
    Steady s (s.whenConnected c f) := by
  unfold State.whenConnected
  split
  · exact (same s).modChan c hf
  · exact same s

theorem matchedOpen : Steady s (s.matchedOpen c) := by
  have hreply := replyPeer s c
  have henter : (s.chan c).link.state ≠ .closed → Steady s ((s.replyPeer c .openAck).enterOpen c) := fun h =>
    (hreply _).trans (enterOpen _ c (by rwa [State.chan_replyPeer]))
  unfold State.matchedOpen
  split
  case h_1 hst => exact henter (by rw [hst]; decide)
  case h_2 hst => exact henter (by rw [hst]; decide)
  case h_3 => exact peerRestart s c
  case h_7 | h_8 => exact hreply _
  all_goals exact (hreply _).trans (closeConnected _ c _)

theorem matchedOpenAck : Steady s (s.matchedOpenAck c) := by
  unfold State.matchedOpenAck
  split
  case h_1 hst => exact enterOpen s c (by rw [hst]; decide)
  case h_2 => exact replyPeer s c _
  all_goals exact same s

theorem matchedClose : Steady s (s.matchedClose c) := by
  unfold State.matchedClose
  split
  case h_1 hst =>
    split
    · exact (replyPeer s c _).trans (closeConnected _ c _)
    · exact moveTo s c (by rw [hst]; decide) .yield .of_state
  case h_2 hst => exact moveTo s c (by rw [hst]; decide) .yield (f := id) (.same _)
  case h_8 => exact same s
  all_goals exact replyPeer s c _

theorem matchedCloseAck : Steady s (s.matchedCloseAck c) := by
  unfold State.matchedCloseAck
  split
  · exact closeConnected s c _
  · exact same s

theorem matchedReset : Steady s (s.matchedReset c) := by
  unfold State.matchedReset
  split
  case h_1 hst => exact enterFault s c (by rw [hst]; decide) _
  case h_6 | h_7 | h_8 => exact same s
  all_goals exact closeConnected s c _

theorem matchedWord (op : Opcode) (v : BitVec 5) : Steady s (s.matchedWord c op v) := by
  cases op
  case open_ => exact matchedOpen s c
  case openAck => exact matchedOpenAck s c
  case close => exact matchedClose s c
  case closeAck => exact matchedCloseAck s c
  case reset => exact matchedReset s c
  case probe => exact whenConnected s c fun _ => .of_state
  case wordLevel => exact whenConnected s c fun ch => .endStarvation ch .of_state
  case msgLevel => exact whenConnected s c fun ch => .endStarvation ch .of_state

theorem takeControl (source : Address) (w : Word) : Steady s (s.takeControl source w) := by
  unfold State.takeControl State.unmatchedWord
  dsimp only
  split_ifs
  · exact same s
  · exact elsewhere
  · exact matchedWord s _ _ _
  · exact Steady.trans (t := s.countHw .unmatchedControl) elsewhere (queueResponse _ _ _ _ _ _)
  · exact elsewhere

theorem receiveControl (source : Address) (w : Received) : Steady s (s.receiveControl source w) := by
  unfold State.receiveControl
  split
  case h_1 | h_2 | h_3 => exact same s
  case h_4 => exact takeControl s _ _
  all_goals exact elsewhere

/-! ### Slots and frames -/

theorem screen (w : Received) : Steady s (s.screen w) := by
  unfold State.screen
  split <;> exact elsewhere

theorem disposeUnused (w : Received) : Steady s (s.disposeUnused w) := by
  unfold State.disposeUnused
  split <;> exact elsewhere

theorem endLine (clash : Bool) : Steady s (s.endLine clash) := by
  unfold State.endLine
  dsimp only
  split <;> exact elsewhere

theorem reportCredit (clash : Bool) : Steady s (s.reportCredit c clash) := by
  unfold State.reportCredit
  dsimp only
  split
  · split
    · rename_i m _ _ _ _
      refine (elsewhere).setChan c (Channel.Steady.trans (b := if m.sent = 0 then _ else _) ?_ .of_state)
      rw [State.chan_addCompletions]
      split <;> exact .of_state
    · refine (same s).setChan c ?_
      split <;> exact .of_state
  · exact (same s).setChan c .of_state

theorem settleControl (clash : Bool) : Steady s (s.settleControl clash) := (elsewhere).mapChans

/-- A changed mark leaves its channel steady (04 R63). -/
theorem modMark {t : State} (h : Steady s t) (p : Fin 32) (f : Mark → Mark) : Steady s (t.modMark p f) := by
  refine h.modChan _ fun ch => ?_
  split <;> exact .of_state

theorem arbitrate : Steady s s.arbitrate.2 := by
  unfold State.arbitrate
  split
  · exact elsewhere
  · split
    · rename_i p _
      exact modMark s (t := { s with lnk := { s.lnk with lastPosition := p } }) elsewhere p
        fun m => { m with chosen := true }
    · exact same s

theorem frameStart : Steady s s.frameStart := (elsewhere).mapChans

theorem loseHighway (dest : Sync) (pulse : Option Nat) : Steady s (s.loseHighway dest pulse) :=
  (elsewhere).mapChans .loseHighway

theorem checkHeader (line : SlotBits) : Steady s (s.checkHeader line) := by
  unfold State.checkHeader
  split
  · split <;> exact elsewhere
  · exact elsewhere

theorem inFollowerFrame : Steady s s.inFollowerFrame := by
  unfold State.inFollowerFrame
  split <;> exact elsewhere

theorem inMasterFrame : Steady s s.inMasterFrame := by
  unfold State.inMasterFrame
  split <;> exact elsewhere

end

end Steady

end Sys2Proof.Machine
end

section
/-! SUPPORT. The commands that are steady: they leave the Buffer Memory and the regions alone, report every change of
link state, and take no channel out of CLOSED (03 R43, R46, R47). -/

namespace Sys2Proof.Machine

-- One theorem after another, as in the tests: many at once ask for more threads than there are.
set_option Elab.async false

open Steady (same elsewhere)

/-! ### Device commands and register writes -/

section
variable (s : State)

theorem execStart_steady : Ensures (execStart s) (Steady s) := by
  refine .live (same s) fun _ => ?_
  split
  · refine Steady.finishDevice (t := s.startHighway) ?_ _
    unfold State.startHighway
    dsimp only
    split <;> exact elsewhere
  all_goals exact (same s).finishDevice _

theorem execStop_steady : Ensures (execStop s) (Steady s) := by
  refine .live (same s) fun _ => ?_
  split
  · exact (same s).finishDevice _
  · exact (elsewhere).finishDevice _
  all_goals exact ((Steady.takeDue s).trans (.loseHighway _ _ _)).finishDevice _

theorem execSwitch_steady : Ensures (execSwitch s) (Steady s) := by
  refine .live (same s) fun _ => ?_
  split_ifs <;> exact (elsewhere).finishDevice _

theorem execCancel_steady : Ensures (execCancel s) (Steady s) := by
  refine .live (same s) fun _ => ?_
  split_ifs <;> exact (elsewhere).finishDevice _

theorem execPopcq_steady : Ensures (execPopcq s) (Steady s) := by
  refine .live (same s) fun _ => ?_
  split <;> exact (elsewhere).finishDevice _

theorem execUnknownCommandCode_steady (port : CmdPort) (w : Word) :
    Ensures (execUnknownCommandCode port w s) (Steady s) := by
  refine .live (same s) fun _ => ?_
  split
  · exact .next (same s)
  · cases port
    · exact (same s).finishDevice _
    · exact (same s).finishChannel _

theorem execHcfgWrite_steady (w : Word) : Ensures (execHcfgWrite w s) (Steady s) := by
  refine .live (same s) fun _ => ?_
  split
  · exact (elsewhere).finish
  · exact (same s).finishDevice _

theorem execHdivWrite_steady (w : Word) : Ensures (execHdivWrite w s) (Steady s) := by
  refine .live (same s) fun _ => ?_
  split_ifs
  · exact (elsewhere).finish
  · exact (same s).finishDevice _

theorem execDevpendWrite_steady (w : Word) : Ensures (execDevpendWrite w s) (Steady s) :=
  .live (same s) fun _ => (elsewhere).finish

theorem execDevenWrite_steady (w : Word) : Ensures (execDevenWrite w s) (Steady s) :=
  .live (same s) fun _ => (elsewhere).finish

theorem execTimingWrite_steady (w : Word) : Ensures (execTimingWrite w s) (Steady s) := by
  refine .live (same s) fun _ => ?_
  split_ifs
  · exact (same s).finishDevice _
  · exact (elsewhere).finish

theorem execTiming2Write_steady (w : Word) : Ensures (execTiming2Write w s) (Steady s) := by
  refine .live (same s) fun _ => ?_
  split_ifs
  · exact (same s).finishDevice _
  · exact (elsewhere).mapChans.finish

theorem execCqthrWrite_steady (w : Word) : Ensures (execCqthrWrite w s) (Steady s) := by
  refine .live (same s) fun _ => ?_
  dsimp only
  split_ifs
  · exact (elsewhere).finish
  · exact (same s).finishDevice _

theorem execTselWrite_steady (w : Word) : Ensures (execTselWrite w s) (Steady s) := by
  refine .live (same s) fun _ => ?_
  split
  · exact (elsewhere).finish
  · exact (same s).finishDevice _

theorem execRegisterWrite_steady (r : PlainReg) (w : Word) : Ensures (execRegisterWrite r w s) (Steady s) := by
  refine .live (same s) fun _ => ?_
  cases r
  case darg => exact (elsewhere).finish
  case ctag => exact ((same s).modChan _).finish
  case chsel => exact (elsewhere).finish
  all_goals exact (same s).finish

/-! ### Channel commands -/

theorem execChanClose_steady : Ensures (execChanClose s) (Steady s) := by
  refine .live (same s) fun _ => ?_
  dsimp only
  split
  case h_1 hst =>
    have hlive : (s.chan s.host.selected).link.state ≠ .closed := by rw [hst]; decide
    split
    · exact (Steady.closeCredit s _ hlive).finishChannel _
    · exact (Steady.closeStream s _ hlive).finishChannel _
  case h_2 | h_3 => exact (Steady.closeUnopened s _).finishChannel _
  all_goals exact (same s).finishChannel _

theorem execChanReset_steady : Ensures (execChanReset s) (Steady s) := by
  refine .live (same s) fun _ => ?_
  dsimp only
  split
  case h_1 =>
    exact (Steady.trans (t := s.queueRequest s.host.selected .reset) elsewhere
      (.closeUnconnected _ _ _)).finishChannel _
  case h_2 => exact (Steady.closeUnconnected s _ _).finishChannel _
  case h_7 | h_8 => exact (same s).finishChannel _
  all_goals exact (Steady.resetConnected s _).finishChannel _

theorem execChanPost_steady : Ensures (execChanPost s) (Steady s) := by
  have hrefuse := fun r => (same s).finishChannel r
  refine .live (same s) fun _ => ?_
  split
  · unfold State.postCredit
    dsimp only
    split_ifs
    · exact hrefuse _
    · exact hrefuse _
    · exact hrefuse _
    · exact hrefuse _
    · exact ((elsewhere).modChan _).finishChannel _
    · exact hrefuse _
  · unfold State.postStream
    dsimp only
    split_ifs
    · exact ((same s).modChan _).finishChannel _
    · exact hrefuse _
    · exact hrefuse _

theorem execChanAbandon_steady : Ensures (execChanAbandon s) (Steady s) := by
  refine .live (same s) fun _ => ?_
  split
  · unfold State.abandonCredit
    split_ifs
    · exact ((same s).modChan _).finishChannel _
    · exact (same s).finishChannel _
  · unfold State.abandonStream
    dsimp only
    split_ifs
    · refine ((same s).modChan _ fun ch => ?_).finishChannel _
      exact .of_state
    · exact (same s).finishChannel _
    · exact (same s).finishChannel _

theorem execChanRelease_steady : Ensures (execChanRelease s) (Steady s) := by
  refine .live (same s) fun _ => ?_
  split
  · exact (same s).finishChannel _
  · split_ifs
    · refine ((same s).modChan _ fun ch => ?_).finishChannel _
      exact (Channel.Steady.of_state (a := ch)).trans (.grant _)
    · exact (same s).finishChannel _

theorem execCdataRead_steady : Ensures (execCdataRead s) (Steady s) := by
  have hnothing : Ensures (finish (s.readNothing s.host.selected)) (Steady s) :=
    ((elsewhere).modChan _ fun ch => .raise ch _).finish
  refine .live (same s) fun _ => ?_
  dsimp only
  split
  · exact hnothing
  · split_ifs
    · exact ((elsewhere).modChan _).finish
    · exact .fault _
    · exact hnothing

/-! ### Table accesses -/

theorem execPendingBankWrite_steady (w : Word) : Ensures (execPendingBankWrite w s) (Steady s) := by
  refine Steady.tableAccess ?_
  unfold State.writePending
  split
  · exact elsewhere
  · split <;> exact elsewhere

theorem execConfigWordWrite_steady (w : Word) : Ensures (execConfigWordWrite w s) (Steady s) := by
  refine Steady.tableAccess ?_
  unfold State.writeConfig
  dsimp only
  split
  · exact elsewhere
  · split
    · exact elsewhere
    · exact (same s).modChan _

theorem execChannelCounterRead_steady : Ensures (execChannelCounterRead s) (Steady s) :=
  Steady.tableAccess ((elsewhere).modChan _)

theorem execHighwayCounterRead_steady : Ensures (execHighwayCounterRead s) (Steady s) :=
  Steady.tableAccess elsewhere

theorem execTableRead_steady : Ensures (execTableRead s) (Steady s) := Steady.tableAccess elsewhere

theorem execTableWriteIgnored_steady (w : Word) : Ensures (execTableWriteIgnored w s) (Steady s) :=
  Steady.tableAccess (same s)

/-! ### Synchronisation and frames -/

theorem execAcquirePulse_steady (clock : Nat) : Ensures (execAcquirePulse clock s) (Steady s) := by
  refine .live (same s) fun _ => ?_
  split_ifs
  · exact (elsewhere).finish
  · exact (elsewhere).finish
  · exact .next (same s)
  · exact .next (same s)

theorem execCandidateHeader_steady (line : SlotBits) : Ensures (execCandidateHeader line s) (Steady s) := by
  have ht := Steady.takeDue s
  refine .live (same s) fun _ => ?_
  dsimp only
  generalize s.takeDue = t at ht ⊢
  split_ifs
  · split
    · exact ((ht.trans elsewhere).trans (.frameStart _)).finish
    · exact (ht.trans elsewhere).finish
  · exact .next (same s)

theorem execSyncMiss_steady : Ensures (execSyncMiss s) (Steady s) := by
  have ht := Steady.takeDue s
  refine .live (same s) fun _ => ?_
  dsimp only
  generalize s.takeDue = t at ht ⊢
  split_ifs
  · exact (ht.trans elsewhere).finish
  · exact .next (same s)

/-- A loss by pulses is a loss after the counters moved (01 R13, R14). -/
theorem Steady.loseLock (pulse : Option Nat) : Steady s (s.loseLock pulse) :=
  Steady.trans (t := (s.countHw .syncMisses).raise .lockLost) elsewhere (.loseHighway _ _ _)

theorem execHoldoverMiss_steady : Ensures (execHoldoverMiss s) (Steady s) := by
  have ht := Steady.takeDue s
  refine .live (same s) fun _ => ?_
  generalize s.takeDue = t at ht ⊢
  split_ifs
  · exact (ht.trans (.loseLock _ _)).finish
  · exact .next (same s)

theorem execMisplacedPulse_steady (bit : Nat) : Ensures (execMisplacedPulse bit s) (Steady s) := by
  have ht := Steady.takeDue s
  refine .live (same s) fun _ => ?_
  dsimp only
  generalize s.takeDue = t at ht ⊢
  have hnoted : ∀ k, Steady s (t.noteHsync k) := fun k => ht.trans elsewhere
  split_ifs
  · exact ((hnoted _).trans (.loseLock _ _)).finish
  · exact (hnoted _).finish
  · exact .next (same s)
  · exact .next (same s)

theorem execPulseAtExpectedBit_steady : Ensures (execPulseAtExpectedBit s) (Steady s) := by
  have ht := Steady.takeDue s
  refine .live (same s) fun _ => ?_
  dsimp only
  generalize s.takeDue = t at ht ⊢
  split_ifs
  · exact (ht.trans elsewhere).finish
  · exact (ht.trans elsewhere).finish
  · exact .next (same s)
  · exact .next (same s)

theorem execFollowerHeaderSlot_steady (line : SlotBits) : Ensures (execFollowerHeaderSlot line s) (Steady s) := by
  have ht := Steady.takeDue s
  refine .live (same s) fun _ => ?_
  generalize s.takeDue = t at ht ⊢
  split_ifs
  · have hframe := ht.trans (.inFollowerFrame _)
    exact ((hframe.trans (.checkHeader _ line)).trans (.frameStart _)).finish
  · exact .next (same s)

/-- A clash in a Master's slot 0 is a loss after the counters moved (01 R15). -/
theorem Steady.masterConflict : Steady s s.masterConflict :=
  Steady.trans (t := (s.lineFault .clashes).raise .masterConflict) elsewhere (.loseHighway _ _ _)

theorem execMasterHeaderSlot_steady (line : SlotBits) : Ensures (execMasterHeaderSlot line s) (Steady s) := by
  have ht := Steady.takeDue s
  refine .live (same s) fun _ => ?_
  dsimp only
  generalize s.takeDue = t at ht ⊢
  have hframe := ht.trans (.inMasterFrame t)
  split_ifs
  · exact (hframe.trans (.masterConflict _)).finish
  · exact (hframe.trans (.frameStart _)).finish
  · exact .next (same s)

/-! ### Slots -/

theorem execTxdataOffer_steady (n : Slot) : Ensures (execTxdataOffer n s) (Steady s) := by
  have ht := Steady.takeDue s
  refine .live (same s) fun _ => ?_
  dsimp only
  generalize s.takeDue = t at ht ⊢
  split
  · split
    · rename_i a hoffer
      have hanswer := ht.setChan _ (.offer _ hoffer)
      unfold State.driveAnswer
      split
      · exact (hanswer.trans elsewhere).finish
      · split_ifs
        · exact (hanswer.trans elsewhere).finish
        · exact .fault _
    · exact (ht.trans elsewhere).finish
  · exact .next (same s)

theorem execTxdataReport_steady (line : SlotBits) : Ensures (execTxdataReport line s) (Steady s) := by
  have hend := Steady.endLine s
  refine .live (same s) fun _ => ?_
  split
  · exact .next (same s)
  · dsimp only
    split
    · exact ((hend _).trans (.reportCredit _ _ _)).finish
    · exact ((hend _).modChan _ .reportStreamWord).finish
    · exact ((hend _).modChan _).finish
    · exact (hend _).finish
    · exact .next (same s)

theorem execTxcontrolOffer_steady (n : Slot) : Ensures (execTxcontrolOffer n s) (Steady s) := by
  have ht := Steady.takeDue s
  refine .live (same s) fun _ => ?_
  dsimp only
  generalize s.takeDue = t at ht ⊢
  split
  · have harb := ht.trans (.arbitrate t)
    split
    · rename_i payload t1 ht1
      rw [ht1] at harb
      exact (harb.trans elsewhere).finish
    · rename_i t1 ht1
      rw [ht1] at harb
      exact (harb.trans elsewhere).finish
  · exact .next (same s)

theorem execTxcontrolReport_steady (line : SlotBits) : Ensures (execTxcontrolReport line s) (Steady s) := by
  refine .live (same s) fun _ => ?_
  split
  · exact .next (same s)
  · split
    · exact ((Steady.endLine s _).trans (.settleControl _ _)).finish
    all_goals exact .next (same s)

theorem execRxcontrolWord_steady (n : Slot) (line : SlotBits) : Ensures (execRxcontrolWord n line s) (Steady s) := by
  have ht := Steady.takeDue s
  refine .live (same s) fun _ => ?_
  dsimp only
  generalize s.takeDue = t at ht ⊢
  split
  · have henter : Steady s (t.enterSlot n) := ht.trans elsewhere
    exact ((henter.trans (.screen _ _)).trans (.receiveControl _ _ _)).finish
  · exact .next (same s)

theorem execUnusedSlotWord_steady (n : Slot) (line : SlotBits) : Ensures (execUnusedSlotWord n line s) (Steady s) := by
  have ht := Steady.takeDue s
  refine .live (same s) fun _ => ?_
  dsimp only
  generalize s.takeDue = t at ht ⊢
  split
  · have henter : Steady s (t.enterSlot n) := ht.trans elsewhere
    exact (henter.trans (.disposeUnused _ _)).finish
  · exact .next (same s)

end

/-- The rows whose commands may do more than a steady one: they open or flush a channel, clear its latches, give it a
region, store a word or reset the part. -/
def unsteadyRow : Instr → Bool
  | .chanOpen | .chanListen | .chanFlush | .ceventWrite _ | .regionTableWrite _ => true
  | .cdataWrite _ | .rxdataWord _ _ => true
  | .softreset | .resetPin _ => true
  | _ => false

/-- Every command of the other rows is steady. -/
theorem exec_steady {i : Instr} (s : State) (h : unsteadyRow i = false) : Ensures (exec i s) (Steady s) := by
  cases i
  case start => exact execStart_steady s
  case stop => exact execStop_steady s
  case switch => exact execSwitch_steady s
  case cancel => exact execCancel_steady s
  case popcq => exact execPopcq_steady s
  case unknownCommandCode port w => exact execUnknownCommandCode_steady s port w
  case chanClose => exact execChanClose_steady s
  case chanReset => exact execChanReset_steady s
  case chanPost => exact execChanPost_steady s
  case chanAbandon => exact execChanAbandon_steady s
  case chanRelease => exact execChanRelease_steady s
  case cdataRead => exact execCdataRead_steady s
  case hcfgWrite w => exact execHcfgWrite_steady s w
  case hdivWrite w => exact execHdivWrite_steady s w
  case devpendWrite w => exact execDevpendWrite_steady s w
  case devenWrite w => exact execDevenWrite_steady s w
  case timingWrite w => exact execTimingWrite_steady s w
  case timing2Write w => exact execTiming2Write_steady s w
  case cqthrWrite w => exact execCqthrWrite_steady s w
  case tselWrite w => exact execTselWrite_steady s w
  case pendingBankWrite w => exact execPendingBankWrite_steady s w
  case configWordWrite w => exact execConfigWordWrite_steady s w
  case channelCounterRead => exact execChannelCounterRead_steady s
  case highwayCounterRead => exact execHighwayCounterRead_steady s
  case tableRead => exact execTableRead_steady s
  case tableWriteIgnored w => exact execTableWriteIgnored_steady s w
  case registerWrite r w => exact execRegisterWrite_steady s r w
  case acquirePulse clock => exact execAcquirePulse_steady s clock
  case candidateHeader line => exact execCandidateHeader_steady s line
  case syncMiss => exact execSyncMiss_steady s
  case holdoverMiss => exact execHoldoverMiss_steady s
  case misplacedPulse bit => exact execMisplacedPulse_steady s bit
  case followerHeaderSlot line => exact execFollowerHeaderSlot_steady s line
  case masterHeaderSlot line => exact execMasterHeaderSlot_steady s line
  case mapSwitch => exact .live (same s) fun _ => (Steady.mapTest s).finish
  case answerTimerExpiry c => exact .live (same s) fun _ => (Steady.takeAnswerExpiry s c).finish
  case probeTimerExpiry c => exact .live (same s) fun _ => (Steady.takeProbeExpiry s c).finish
  case refreshTimerExpiry => exact .live (same s) fun _ => (Steady.takeRefresh s).finish
  case txdataOffer n => exact execTxdataOffer_steady s n
  case txdataReport line => exact execTxdataReport_steady s line
  case drainCompletion c => exact .live (same s) fun _ => (Steady.takeDrain s c).finish
  case txcontrolOffer n => exact execTxcontrolOffer_steady s n
  case txcontrolReport line => exact execTxcontrolReport_steady s line
  case rxcontrolWord n line => exact execRxcontrolWord_steady s n line
  case unusedSlotWord n line => exact execUnusedSlotWord_steady s n line
  case pulseAtExpectedBit => exact execPulseAtExpectedBit_steady s
  all_goals cases h

end Sys2Proof.Machine
end

section
/-! SUPPORT. The remaining rows, each with what it may do beyond a steady command, and the three statements that every
command is read for: memory, link states and regions (03 R43, R46, R47). -/

namespace Sys2Proof.Machine

-- One theorem after another, as in the tests: many at once ask for more threads than there are.
set_option Elab.async false

/-! ### Moves of the channels (03 R46, R47) -/

/-- From `s` to `t` every change of link state is latched, and a channel outside CLOSED in `t` keeps its regions and was
outside CLOSED before, or is the selected channel, whose regions are valid. -/
structure MovesByRule (s t : State) : Prop where
  reported : ∀ c : Chan, (t.chan c).link.state ≠ (s.chan c).link.state → (t.chan c).latches.getLsbD 0 = true
  live : ∀ c : Chan, (t.chan c).link.state ≠ .closed →
    (t.chan c).txRegion = (s.chan c).txRegion ∧ (t.chan c).rxRegion = (s.chan c).rxRegion ∧
      ((s.chan c).link.state ≠ .closed ∨ (c = s.host.selected ∧ s.regionsValid c = true))

/-- As `MovesByRule`, and the Buffer Memory stays. -/
structure MovesInPlace (s t : State) : Prop extends MovesByRule s t where
  memory : t.memory = s.memory

theorem MovesByRule.of_chan {s t : State} (h : ∀ c : Chan, (s.chan c).Steady (t.chan c)) : MovesByRule s t :=
  ⟨fun c => (h c).moved, fun c hc => ⟨(h c).txRegion, (h c).rxRegion, .inl ((h c).live hc)⟩⟩

namespace MovesInPlace

theorem of_steady {s t : State} (h : Steady s t) : MovesInPlace s t := ⟨.of_chan h.chan, h.memory⟩

theorem same (s : State) : MovesInPlace s s := of_steady (.same s)

/-- An operation on one channel moves by rule when that channel does. -/
theorem of_touches {c : Chan} {s t : State} (h : TouchesOnly c s t)
    (reported : (t.chan c).link.state ≠ (s.chan c).link.state → (t.chan c).latches.getLsbD 0 = true)
    (live : (t.chan c).link.state ≠ .closed →
      (t.chan c).txRegion = (s.chan c).txRegion ∧ (t.chan c).rxRegion = (s.chan c).rxRegion ∧
        ((s.chan c).link.state ≠ .closed ∨ (c = s.host.selected ∧ s.regionsValid c = true))) :
    MovesInPlace s t := by
  refine ⟨⟨fun d => ?_, fun d => ?_⟩, h.memory⟩
  · by_cases hd : d = c
    · exact hd ▸ reported
    · rw [h.chan d hd]
      exact fun hne => absurd rfl hne
  · by_cases hd : d = c
    · exact hd ▸ live
    · rw [h.chan d hd]
      exact fun hlive => ⟨rfl, rfl, .inl hlive⟩

/-- The selected channel may leave CLOSED with valid regions. -/
theorem of_valid {s t : State} (hvalid : s.regionsValid s.host.selected = true)
    (h : TouchesOnly s.host.selected s t)
    (hreports : (s.chan s.host.selected).Reports (t.chan s.host.selected)) : MovesInPlace s t :=
  of_touches h hreports.moved fun _ => ⟨hreports.txRegion, hreports.rxRegion, .inr ⟨rfl, hvalid⟩⟩

theorem finish {s t : State} (h : MovesInPlace s t) : Ensures (finish t) (MovesInPlace s) :=
  .next ⟨⟨h.reported, h.live⟩, h.memory⟩

theorem finishChannel {s t : State} (h : MovesInPlace s t) (r : CmdResult) :
    Ensures (finishChannel t r) (MovesInPlace s) := .next ⟨⟨h.reported, h.live⟩, h.memory⟩

end MovesInPlace

/-! ### OPEN, LISTEN, FLUSH, CEVENT and the Region Table (03 R45, 05 R75, R76, R79, 10 R161) -/

section
variable (s : State)

theorem execChanOpen_moves : Ensures (execChanOpen s) (MovesInPlace s) := by
  have hrefuse := fun r => (MovesInPlace.same s).finishChannel r
  have hstart : ¬ (!s.regionsValid s.host.selected) = true →
      Ensures (finishChannel (s.startOpening s.host.selected) .done) (MovesInPlace s) := fun hvalid =>
    (MovesInPlace.of_valid (by simpa using hvalid) (.startOpening _ s) (s.startOpening_reports _)).finishChannel _
  refine .live (.same s) fun _ => ?_
  dsimp only
  split
  · split_ifs with _ hvalid
    exacts [hrefuse _, hrefuse _, hstart hvalid]
  · split_ifs with _ hvalid
    · exact hrefuse _
    · exact hrefuse _
    · exact (MovesInPlace.of_valid (by simpa using hvalid) (.enterOpen _ s) (s.enterOpen_reports _)).finishChannel _
  · split_ifs with hvalid
    exacts [hrefuse _, hstart hvalid]
  · exact hrefuse _

theorem execChanListen_moves : Ensures (execChanListen s) (MovesInPlace s) := by
  have hrefuse := fun r => (MovesInPlace.same s).finishChannel r
  refine .live (.same s) fun _ => ?_
  dsimp only
  split_ifs with _ _ _ hvalid
  · exact hrefuse _
  · exact hrefuse _
  · exact hrefuse _
  · refine (MovesInPlace.of_valid (by simpa using hvalid) (.modChan _ s _) ?_).finishChannel _
    rw [State.chan_modChan_same]
    exact .moveTo _ _
  · exact hrefuse _

/-- FLUSH clears the latches before it moves. -/
theorem execChanFlush_moves : Ensures (execChanFlush s) (MovesInPlace s) := by
  refine .live (.same s) fun _ => ?_
  dsimp only
  split_ifs
  · refine (MovesInPlace.of_touches (.modChan s.host.selected s Channel.flush) ?_ ?_).finishChannel _
    · rw [State.chan_modChan_same]
      exact (Channel.Reports.moveTo _ .closed).moved
    · rw [State.chan_modChan_same]
      exact fun hlive => absurd (Channel.moveTo_state _ .closed) hlive
  · exact (MovesInPlace.same s).finishChannel _

/-- A latch that the host clears is no move. -/
theorem execCeventWrite_moves (w : Word) : Ensures (execCeventWrite w s) (MovesInPlace s) := by
  refine .live (.same s) fun _ => ?_
  refine (MovesInPlace.of_touches (.modChan s.host.selected s _) ?_ ?_).finish
  · rw [State.chan_modChan_same]
    exact fun hne => absurd rfl hne
  · rw [State.chan_modChan_same]
    exact fun hlive => ⟨rfl, rfl, .inl hlive⟩

/-- A region is given to a channel in CLOSED alone. -/
theorem State.writeRegion_moves (i : Nat) (w : Word) : MovesInPlace s (s.writeRegion i w) := by
  unfold State.writeRegion
  dsimp only
  split
  · exact .of_steady .elsewhere
  · split
    · rename_i hclosed
      obtain ⟨hstate, -⟩ := (Channel.reconfigurable_iff _).mp hclosed
      refine .of_touches (.modChan (chanOfIndex i 2) s _) ?_ ?_
      all_goals rw [State.chan_modChan_same]
      · split
        all_goals exact fun hne => absurd rfl hne
      · split
        all_goals exact fun hlive => absurd hstate hlive
    · exact .of_steady .elsewhere

theorem execRegionTableWrite_moves (w : Word) : Ensures (execRegionTableWrite w s) (MovesInPlace s) := by
  refine tableAccess_ensures s (.same s) fun _ _ => ?_
  have hwrite := s.writeRegion_moves s.host.index w
  exact ⟨⟨hwrite.reported, hwrite.live⟩, hwrite.memory⟩

end

/-! ### Stores: CDATA writes and RxData words (07 R111, R119, 08 R136) -/

section
variable {s t : State}

/-- A CDATA write does nothing under RESET#, stores its word and appends it, or refuses it. -/
theorem execCdataWrite_next {w : Word} (h : execCdataWrite w s = .next t) :
    t = s ∨
      t = ({ s with memory := Memory.write s.memory s.selectedChan.txStoreAddr w }.modChan s.host.selected
        Channel.appendWord).evaluate ∨
      t = (s.modChan s.host.selected Channel.refuseWrite).evaluate := by
  unfold execCdataWrite whenLive at h
  dsimp only at h
  split_ifs at h
  · cases h
    exact .inl rfl
  · cases h
    exact .inr (.inl rfl)
  · cases h
    exact .inr (.inr rfl)

/-- A word of an RxData slot leaves the part as it is, or is screened and handed to the slot's channel. -/
theorem execRxdataWord_next {n : Slot} {line : SlotBits} (h : execRxdataWord n line s = .next t) :
    t = s ∨ ∃ c, s.takeDue.entryOf n = .rxData c ∧
      t = (((s.takeDue.enterSlot n).screen (receive line)).receiveData c (receive line)).evaluate := by
  unfold execRxdataWord whenLive at h
  dsimp only at h
  split at h
  · cases h
    exact .inl rfl
  · split at h
    · rename_i c _ hentry
      split at h
      · cases h
      · cases h
        exact .inr ⟨c, hentry, rfl⟩
    · cases h
      exact .inl rfl

end

section
variable (s : State) (c : Chan)

theorem State.takeData_steady (d : Chan) (k : Kind) (p : Word) :
    (s.chan d).Steady ((s.takeData c k p).chan d) := by
  have hset := ((Steady.same s).setChan c (.dataWord (s.chan c) s.hwi.frame k)).chan d
  unfold State.takeData
  dsimp only
  split
  · exact hset
  · exact hset

theorem State.takeData_memory (k : Kind) (p : Word) :
    (s.takeData c k p).memory = s.memory ∨
      (s.takeData c k p).memory = Memory.write s.memory (s.chan c).rxStoreAddr p := by
  unfold State.takeData
  dsimp only
  split
  · exact .inr rfl
  · exact .inl rfl

/-- A received word that is no data word of a receiving channel leaves memory and channels steady (08 R130). -/
theorem State.receiveData_cases (w : Received) :
    Steady s (s.receiveData c w) ∨ ∃ k p, w = .word k p ∧ s.receiveData c w = s.takeData c k p := by
  cases w with
  | checkError =>
    unfold State.receiveData
    dsimp only
    split
    · exact .inl ((Steady.same s).modChan c .rxCheckError)
    · exact .inl (.same s)
  | word k p =>
    cases hk : k.isData with
    | true =>
      rw [State.receiveData_data s c p hk]
      split
      · exact .inr ⟨k, p, rfl, rfl⟩
      · exact .inl .elsewhere
    | false =>
      cases k
      case control => exact .inl (.elsewhere (t := s.countHw .kindMismatches))
      case header | fill | idle => exact .inl (.same s)
      all_goals cases hk

theorem State.receiveData_steady (d : Chan) (w : Received) :
    (s.chan d).Steady ((s.receiveData c w).chan d) := by
  rcases s.receiveData_cases c w with hsteady | ⟨k, p, -, htake⟩
  · exact hsteady.chan d
  · rw [htake]
    exact s.takeData_steady c d k p

end

/-- The screen of a received word changes no channel (01 R6). -/
@[simp] theorem State.chan_screen (s : State) (w : Received) (c : Chan) : (s.screen w).chan c = s.chan c := by
  unfold State.screen
  split <;> rfl

/-- What comes before the word of an RxData slot is handed to its channel. -/
theorem Steady.screened (s : State) (n : Slot) (w : Received) : Steady s ((s.takeDue.enterSlot n).screen w) := by
  have ht := Steady.takeDue s
  generalize s.takeDue = t at ht ⊢
  exact (ht.trans .elsewhere).trans (.screen _ w)

theorem execCdataWrite_moves (s : State) (w : Word) : Ensures (execCdataWrite w s) (MovesByRule s) := by
  intro t ht
  rcases execCdataWrite_next ht with rfl | rfl | rfl
  · exact .of_chan fun _ => .same _
  · exact .of_chan ((Steady.same s).modChan s.host.selected .appendWord).chan
  · exact .of_chan ((Steady.same s).modChan s.host.selected .refuseWrite).chan

theorem execRxdataWord_moves (s : State) (n : Slot) (line : SlotBits) :
    Ensures (execRxdataWord n line s) (MovesByRule s) := by
  intro t ht
  rcases execRxdataWord_next ht with rfl | ⟨c, -, rfl⟩
  · exact .of_chan fun _ => .same _
  · exact .of_chan fun d => ((Steady.screened s n _).chan d).trans (State.receiveData_steady _ c d _)

/-! ### Every command -/

/-- The rows that store a word or reset the part. -/
def storesOrResets : Instr → Bool
  | .cdataWrite _ | .rxdataWord _ _ => true
  | .softreset | .resetPin _ => true
  | _ => false

/-- Every command of the other rows moves by rule, and the Buffer Memory stays. -/
theorem exec_movesInPlace {i : Instr} (s : State) (h : storesOrResets i = false) :
    Ensures (exec i s) (MovesInPlace s) := by
  cases hrow : unsteadyRow i with
  | false => exact (exec_steady s hrow).mono fun t ht => .of_steady ht
  | true =>
    cases i
    case chanOpen => exact execChanOpen_moves s
    case chanListen => exact execChanListen_moves s
    case chanFlush => exact execChanFlush_moves s
    case ceventWrite w => exact execCeventWrite_moves s w
    case regionTableWrite w => exact execRegionTableWrite_moves s w
    case cdataWrite | rxdataWord | softreset | resetPin => cases h
    all_goals cases hrow

/-- Every command but the resets moves by rule. -/
theorem exec_movesByRule (i : Instr) (s : State) (hsoft : i ≠ .softreset) (hpin : i ≠ .resetPin true) :
    Ensures (exec i s) (MovesByRule s) := by
  cases hrow : storesOrResets i with
  | false => exact (exec_movesInPlace s hrow).mono fun t ht => ht.toMovesByRule
  | true =>
    cases i
    case cdataWrite w => exact execCdataWrite_moves s w
    case rxdataWord n line => exact execRxdataWord_moves s n line
    case softreset => exact absurd rfl hsoft
    case resetPin asserted =>
      cases asserted
      · exact .next (.of_chan fun _ => .same _)
      · exact absurd rfl hpin
    all_goals cases hrow

/-- Settles O18: a command that is no reset moves by rule. -/
theorem linkChangesAreReported : Obligations.LinkChangesAreReported := by
  unfold Obligations.LinkChangesAreReported
  intro i s t c hexec hsoft hpin
  exact (exec_movesByRule i s hsoft hpin t hexec).reported c

/-! ### The Buffer Memory (03 R42, R43) -/

/-- The word that a store changes is the one at its address, and it reads as the word stored. -/
theorem Memory.changed_by_write {m : Memory} {a b : Nat} {w : Word} (hwf : Memory.wf m = true)
    (hne : Memory.read (Memory.write m b w) a ≠ Memory.read m a) :
    a = b ∧ Memory.read (Memory.write m b w) a = w := by
  have hab : a = b := by
    by_contra h
    exact hne (Memory.read_write_other m w h)
  subst hab
  exact ⟨rfl, Memory.read_write_of_wf a w hwf⟩

/-- A word of an RxData slot that changes the memory is stored at the store position of the slot's channel (08 R136). -/
theorem State.stores_of_changed {s : State} {n : Slot} {w : Received} {c : Chan}
    (h : (((s.takeDue.enterSlot n).screen w).receiveData c w).memory ≠ s.memory) :
    ∃ k p, w = .word k p ∧ (((s.takeDue.enterSlot n).screen w).receiveData c w).memory =
      Memory.write s.memory (s.takeDue.chan c).rxStoreAddr p := by
  have hkept := (Steady.screened s n w).memory
  rcases State.receiveData_cases _ c w with hsteady | ⟨k, p, hword, htake⟩
  · exact absurd (hsteady.memory.trans hkept) h
  · refine ⟨k, p, hword, ?_⟩
    rw [htake] at h ⊢
    rcases State.takeData_memory _ c k p with hstays | hstored
    · exact absurd (hstays.trans hkept) h
    · rw [hstored, hkept, State.chan_screen, State.chan_enterSlot]

/-- SOFTRESET leaves the contents in place (03 R42). -/
theorem execSoftreset_memory (s : State) : Ensures (execSoftreset s) fun t => t.memory = s.memory :=
  .live rfl fun _ => .next rfl

/-- Settles O17: outside the two rows that store, the memory stays; in these it is one write at the store position. -/
theorem onlyStoresChangeMemory : Obligations.OnlyStoresChangeMemory := by
  unfold Obligations.OnlyStoresChangeMemory
  intro i s t a hwf hexec hpin hne
  have hchanged : t.memory ≠ s.memory := fun he => hne (by rw [he])
  cases hrow : storesOrResets i with
  | false => exact absurd (exec_movesInPlace s hrow t hexec).memory hchanged
  | true =>
    cases i
    case cdataWrite w =>
      rcases execCdataWrite_next hexec with rfl | rfl | rfl
      · exact absurd rfl hchanged
      · obtain ⟨hat, hread⟩ := Memory.changed_by_write (m := s.memory) hwf hne
        exact .inl ⟨w, rfl, hat, hread⟩
      · exact absurd rfl hchanged
    case rxdataWord n line =>
      have hrun : execRxdataWord n line s = .next t := hexec
      rcases execRxdataWord_next hrun with ht | ⟨c, hentry, ht⟩
      · exact absurd (by rw [ht]) hchanged
      · rw [ht, State.evaluate_memory] at hchanged hne ⊢
        obtain ⟨k, p, hword, hstored⟩ := State.stores_of_changed hchanged
        rw [hstored] at hne ⊢
        obtain ⟨hat, hread⟩ := Memory.changed_by_write hwf hne
        exact .inr ⟨n, line, k, p, c, rfl, hword, hentry, hat, hread⟩
    case softreset => exact absurd (execSoftreset_memory s t hexec) hchanged
    case resetPin asserted =>
      cases asserted
      · cases hexec
        exact absurd rfl hchanged
      · exact absurd rfl hpin
    all_goals cases hrow

end Sys2Proof.Machine
end

section
/-! SUPPORT. Region validation by its five tests, and the regions of live channels apart in every step (03 R46). -/

namespace Sys2Proof.Machine

-- One theorem after another, as in the tests: many at once ask for more threads than there are.
set_option Elab.async false

/-! ### Regions (03 section 3.4) -/

/-- Two regions overlap when each has words and begins before the other ends. -/
theorem Region.overlaps_iff (r q : Region) :
    r.overlaps q = true ↔ r.size ≠ 0 ∧ q.size ≠ 0 ∧ r.base < q.base + q.size ∧ q.base < r.base + r.size := by
  simp [Region.overlaps, and_assoc]

/-- Overlapping regions share the first word of the one that begins later. -/
theorem Region.overlaps_iff_shared (r q : Region) : r.overlaps q = true ↔
    ∃ a : Nat, 16 * r.base ≤ a ∧ a < 16 * (r.base + r.size) ∧ 16 * q.base ≤ a ∧ a < 16 * (q.base + q.size) := by
  rw [Region.overlaps_iff]
  refine ⟨fun ⟨hr, hq, hrq, hqr⟩ => ⟨16 * max r.base q.base, ?_⟩, fun ⟨a, hra, har, hqa, haq⟩ => ?_⟩
  · omega
  · omega

theorem Region.overlaps_comm (r q : Region) : r.overlaps q = q.overlaps r := by
  rw [Bool.eq_iff_iff, Region.overlaps_iff, Region.overlaps_iff]
  tauto

theorem Region.inside_iff (r : Region) : r.inside = true ↔ (r.size ≠ 0 → r.base + r.size ≤ 256) := by
  simp [Region.inside, or_iff_not_imp_left]

/-! ### The five tests (03 R46) -/

/-- Test 1, by mode. -/
theorem Channel.regionsPresent_iff (ch : Channel) : ch.regionsPresent = true ↔
    if ch.config.mode = .credit then ch.txRegion.size ≠ 0 ∧ ch.rxRegion.size ≠ 0
    else ch.txRegion.size ≠ 0 ∨ ch.rxRegion.size ≠ 0 := by
  cases hmode : ch.config.mode <;> simp [Channel.regionsPresent, hmode]

/-- Tests 4 and 5: a live channel's regions are left free, and those of a closed channel that hold words. -/
theorem Region.meets_eq_false_iff (r : Region) (other : Channel) : r.meets other = false ↔
    (other.link.state ≠ .closed → r.overlaps other.txRegion = false ∧ r.overlaps other.rxRegion = false) ∧
    (other.link.state = .closed →
      (0 < other.tx.held → r.overlaps other.txRegion = false) ∧
      (0 < other.rx.held → r.overlaps other.rxRegion = false)) := by
  unfold Region.meets
  split
  · rename_i hclosed
    simp [hclosed, imp_iff_not_or, or_comm]
  · rename_i hlive
    simp [hlive]

theorem State.regionsValid_iff (s : State) (c : Chan) : s.regionsValid c = true ↔
    (s.chan c).regionsPresent = true ∧ (s.chan c).txRegion.inside = true ∧ (s.chan c).rxRegion.inside = true ∧
      (s.chan c).txRegion.overlaps (s.chan c).rxRegion = false ∧
      ∀ d : Chan, d ≠ c →
        (s.chan c).txRegion.meets (s.chan d) = false ∧ (s.chan c).rxRegion.meets (s.chan d) = false := by
  simp [State.regionsValid, and_assoc, or_iff_not_imp_left]

/-- Settles O24: the tests one by one, and overlap by a shared word. -/
theorem regionValidationMakesFiveTests : Obligations.RegionValidationMakesFiveTests := by
  unfold Obligations.RegionValidationMakesFiveTests
  rintro s c ch rfl
  refine ⟨?_, Region.overlaps_iff_shared⟩
  rw [State.regionsValid_iff, Channel.regionsPresent_iff, Region.inside_iff, Region.inside_iff]
  simp only [List.forall_mem_cons, List.not_mem_nil, false_implies, implies_true, and_true,
    Region.meets_eq_false_iff]

/-! ### Live regions apart (03 R46) -/

/-- The regions of one channel lie inside the memory and do not overlap. -/
def Channel.RegionsSound (a : Channel) : Prop :=
  a.txRegion.inside = true ∧ a.rxRegion.inside = true ∧ a.txRegion.overlaps a.rxRegion = false

/-- No region of one channel overlaps a region of the other. -/
def Channel.ClearOf (a b : Channel) : Prop :=
  a.txRegion.overlaps b.txRegion = false ∧ a.txRegion.overlaps b.rxRegion = false ∧
    a.rxRegion.overlaps b.txRegion = false ∧ a.rxRegion.overlaps b.rxRegion = false

theorem Channel.ClearOf.symm {a b : Channel} (h : a.ClearOf b) : b.ClearOf a := by
  obtain ⟨htt, htr, hrt, hrr⟩ := h
  refine ⟨?_, ?_, ?_, ?_⟩ <;> rw [Region.overlaps_comm] <;> assumption

/-- The two relations speak of regions alone. -/
theorem Channel.RegionsSound.of_regions {a b : Channel} (h : a.RegionsSound) (htx : b.txRegion = a.txRegion)
    (hrx : b.rxRegion = a.rxRegion) : b.RegionsSound := by
  unfold Channel.RegionsSound
  rw [htx, hrx]
  exact h

theorem Channel.ClearOf.of_regions {a b a' b' : Channel} (h : a.ClearOf b) (htx : a'.txRegion = a.txRegion)
    (hrx : a'.rxRegion = a.rxRegion) (htx' : b'.txRegion = b.txRegion) (hrx' : b'.rxRegion = b.rxRegion) :
    a'.ClearOf b' := by
  unfold Channel.ClearOf
  rw [htx, hrx, htx', hrx']
  exact h

theorem regionsApart_iff (s : State) : RegionsApart s ↔
    (∀ c : Chan, (s.chan c).link.state ≠ .closed → (s.chan c).RegionsSound) ∧
    ∀ c d : Chan, d ≠ c → (s.chan c).link.state ≠ .closed → (s.chan d).link.state ≠ .closed →
      (s.chan c).ClearOf (s.chan d) := by
  refine ⟨fun h => ⟨fun c hc => ?_, fun c d hdc hc hd => ?_⟩, fun ⟨hsound, hclear⟩ c hc => ?_⟩
  · obtain ⟨htx, hrx, hown, -⟩ := h c hc
    exact ⟨htx, hrx, hown⟩
  · obtain ⟨-, -, -, hothers⟩ := h c hc
    exact hothers d hdc hd
  · obtain ⟨htx, hrx, hown⟩ := hsound c hc
    exact ⟨htx, hrx, hown, fun d hdc hd => hclear c d hdc hc hd⟩

/-- Valid regions are sound, and clear of those of every live channel. -/
theorem State.regionsValid_apart {s : State} {c : Chan} (h : s.regionsValid c = true) :
    (s.chan c).RegionsSound ∧
      ∀ d : Chan, d ≠ c → (s.chan d).link.state ≠ .closed → (s.chan c).ClearOf (s.chan d) := by
  obtain ⟨-, htx, hrx, hown, hmeets⟩ := (s.regionsValid_iff c).mp h
  refine ⟨⟨htx, hrx, hown⟩, fun d hdc hd => ?_⟩
  obtain ⟨htxMeets, hrxMeets⟩ := hmeets d hdc
  obtain ⟨htt, htr⟩ := ((Region.meets_eq_false_iff _ _).mp htxMeets).1 hd
  obtain ⟨hrt, hrr⟩ := ((Region.meets_eq_false_iff _ _).mp hrxMeets).1 hd
  exact ⟨htt, htr, hrt, hrr⟩

/-- Regions stay apart when channels leave CLOSED by validation alone. Of two live channels both were live, or one is
the selected channel, whose regions were tested against those of the other. -/
theorem RegionsApart.of_moves {s t : State} (h : RegionsApart s) (k : MovesByRule s t) : RegionsApart t := by
  obtain ⟨hsound, hclear⟩ := (regionsApart_iff s).mp h
  refine (regionsApart_iff t).mpr ⟨fun c hc => ?_, fun c d hdc hc hd => ?_⟩
  · obtain ⟨htx, hrx, hfrom⟩ := k.live c hc
    refine Channel.RegionsSound.of_regions ?_ htx hrx
    rcases hfrom with hlive | ⟨-, hvalid⟩
    · exact hsound c hlive
    · exact (State.regionsValid_apart hvalid).1
  · obtain ⟨htx, hrx, hfrom⟩ := k.live c hc
    obtain ⟨htx', hrx', hfrom'⟩ := k.live d hd
    refine Channel.ClearOf.of_regions ?_ htx hrx htx' hrx'
    rcases hfrom with hlive | ⟨hsel, hvalid⟩
    · rcases hfrom' with hlive' | ⟨-, hvalid'⟩
      · exact hclear c d hdc hlive hlive'
      · exact ((State.regionsValid_apart hvalid').2 c hdc.symm hlive).symm
    · rcases hfrom' with hlive' | ⟨hsel', -⟩
      · exact (State.regionsValid_apart hvalid).2 d hdc hlive'
      · exact absurd (hsel'.trans hsel.symm) hdc

/-- With every channel in CLOSED there is nothing to keep apart. -/
theorem RegionsApart.of_closed {s : State} (h : ∀ c : Chan, (s.chan c).link.state = .closed) : RegionsApart s :=
  fun c hc => absurd (h c) hc

/-- Every command keeps the regions of live channels apart: both resets leave every channel in CLOSED. -/
theorem exec_regionsApart (i : Instr) {s : State} (h : RegionsApart s) : Ensures (exec i s) RegionsApart := by
  by_cases hsoft : i = .softreset
  · subst hsoft
    refine .live h fun _ => .next (.of_closed fun c => ?_)
    rw [State.chan_evaluate, State.chan_setDeviceResult, State.softReset, State.chan_mapChans]
    rfl
  · by_cases hpin : i = .resetPin true
    · subst hpin
      exact .next (.of_closed fun c => by simp [State.chan, State.reset, Channel.reset, LinkRecord.reset])
    · exact (exec_movesByRule i s hsoft hpin).mono fun t ht => h.of_moves ht

/-- Settles O10: each command keeps live regions apart, and the queue of commands is no part of them. -/
theorem liveRegionsStayApart : Obligations.LiveRegionsStayApart := by
  unfold Obligations.LiveRegionsStayApart
  intro s t h hstep
  unfold step at hstep
  split at hstep
  · cases hstep
    exact h
  · rename_i i rest _
    exact exec_regionsApart i (s := { s with pending := rest }) h t hstep

end Sys2Proof.Machine
end

section
/-! SUPPORT. Which command a host access is, the selections of the register window and the unlisted command codes (11
R166, R168, R170 to R173). -/

namespace Sys2Proof.Machine

-- One theorem after another, as in the tests: many at once ask for more threads than there are.
set_option Elab.async false

/-! ### Selections (11 R168, R170) -/

/-- The tables and their sizes (11 R170, Table 35). -/
theorem tableSize_iff (t i : Nat) : (t ≤ 5 ∧ i < tableSize t) ↔
    ((t ≤ 1 ∧ i < 64) ∨ (t = 2 ∧ i < 32) ∨ ((t = 3 ∨ t = 4) ∧ i < 96) ∨ (t = 5 ∧ i < 9)) := by
  by_cases ht : t ≤ 5
  · interval_cases t <;> simp [tableSize]
  · omega

section
variable {s : State} (hlive : s.resetPin = false)
include hlive

/-- A TSEL write by its test (11 R170). -/
theorem exec_tselWrite (w : Word) : exec (.tselWrite w) s =
    if (w.extractLsb' 8 3).toNat ≤ 5 ∧ (w.extractLsb' 0 7).toNat < tableSize (w.extractLsb' 8 3).toNat then
      finish { s with host := { s.host with
        table := (w.extractLsb' 8 3).toNat, index := (w.extractLsb' 0 7).toNat } }
    else finishDevice s .badConfig := by
  refine (whenLive_live _ hlive).trans ?_
  unfold tselOfWord
  dsimp only
  split_ifs <;> rfl

/-- A write to a read-only register or an unused offset is ignored. -/
theorem exec_registerWrite_ignored {r : PlainReg} (w : Word) (hdarg : r ≠ .darg) (hctag : r ≠ .ctag)
    (hchsel : r ≠ .chsel) : exec (.registerWrite r w) s = .next s.evaluate := by
  refine (whenLive_live _ hlive).trans ?_
  cases r
  case darg => exact absurd rfl hdarg
  case ctag => exact absurd rfl hctag
  case chsel => exact absurd rfl hchsel
  all_goals rfl

/-- An unlisted code stores BadConfig in the result of its register (11 R173). -/
theorem exec_unknownCommandCode_device {w : Word} (h : listedCode .device w = false) :
    exec (.unknownCommandCode .device w) s = finishDevice s .badConfig := by
  refine (whenLive_live _ hlive).trans (if_neg ?_)
  rw [codeListed_eq_listedCode, h]
  decide

theorem exec_unknownCommandCode_channel {w : Word} (h : listedCode .channel w = false) :
    exec (.unknownCommandCode .channel w) s = finishChannel s .badConfig := by
  refine (whenLive_live _ hlive).trans (if_neg ?_)
  rw [codeListed_eq_listedCode, h]
  decide

end

/-! ### Command codes (11 R173) -/

theorem listedCode_device_eq_false (w : Word) :
    listedCode .device w = false ↔ (w.extractLsb' 0 4).toNat = 0 ∨ 7 ≤ (w.extractLsb' 0 4).toNat := by
  simp only [listedCode, Bool.and_eq_false_iff, decide_eq_false_iff_not]
  omega

theorem listedCode_channel_eq_false (w : Word) :
    listedCode .channel w = false ↔ (w.extractLsb' 0 4).toNat = 0 ∨ 9 ≤ (w.extractLsb' 0 4).toNat := by
  simp only [listedCode, Bool.and_eq_false_iff, decide_eq_false_iff_not]
  omega

/-- An unlisted code of DCMD is an unknown command. -/
theorem deviceCommandOfWord_unlisted {w : Word} (h : listedCode .device w = false) :
    deviceCommandOfWord w = .unknownCommandCode .device w := by
  rw [← codeListed_eq_listedCode] at h
  simpa [codeListed] using h

/-- An unlisted code of CCMD is an unknown command. -/
theorem channelCommandOfWord_unlisted {w : Word} (h : listedCode .channel w = false) :
    channelCommandOfWord w = .unknownCommandCode .channel w := by
  rw [← codeListed_eq_listedCode] at h
  simpa [codeListed] using h

/-! ### Addresses (11 Table 32) -/

theorem commandOfWrite_dcmd (t : Nat) (w : Word) : commandOfWrite 0 t w = deviceCommandOfWord w := rfl

theorem commandOfWrite_ccmd (t : Nat) (w : Word) : commandOfWrite 15 t w = channelCommandOfWord w := rfl

theorem commandOfWrite_tdata (t : Nat) (w : Word) : commandOfWrite 26 t w = tableCommandOfWrite t w := rfl

theorem commandOfRead_tdata (t : Nat) : commandOfRead 26 t = some (tableCommandOfRead t) := rfl

/-- The five offsets after TDATA are unused. -/
theorem commandOfWrite_unused {a : Fin 32} {k : Fin 5} (h : a.val = 27 + k.val) (t : Nat) (w : Word) :
    commandOfWrite a t w = .registerWrite (.unused k) w := by
  obtain ⟨n, hn⟩ := a
  obtain rfl : n = 27 + k.val := h
  fin_cases k <;> rfl

/-- A read of another register than CDATA and TDATA is no command (11 R168). -/
theorem commandOfRead_none {a : Fin 32} (hcdata : a ≠ 16) (htdata : a ≠ 26) (t : Nat) : commandOfRead a t = none := by
  unfold commandOfRead
  split
  · rename_i h
    exact absurd (Fin.ext h) hcdata
  · rename_i h
    exact absurd (Fin.ext h) htdata
  · rfl

/-- Settles O46: the selections, the unlisted codes, and the commands by code, address and table. -/
theorem selectionAndUnlistedCodes : Obligations.SelectionAndUnlistedCodes := by
  unfold Obligations.SelectionAndUnlistedCodes
  refine ⟨fun w s hlive => ⟨?_, ?_, ?_, ?_, fun r => exec_registerWrite_ignored hlive w⟩, fun w s hlive => ⟨?_, ?_⟩,
    fun t w code hcode => ?_, fun t w => ⟨rfl, rfl, fun a k h => commandOfWrite_unused h t w, ?_⟩⟩
  · rintro t i rfl rfl
    exact ⟨fun h => (exec_tselWrite hlive w).trans (if_pos ((tableSize_iff _ _).mpr h)),
      fun h => (exec_tselWrite hlive w).trans (if_neg (mt (tableSize_iff _ _).mp h))⟩
  · exact whenLive_live _ hlive
  · exact whenLive_live _ hlive
  · exact whenLive_live _ hlive
  · exact fun h => exec_unknownCommandCode_device hlive ((listedCode_device_eq_false w).mpr h)
  · exact fun h => exec_unknownCommandCode_channel hlive ((listedCode_channel_eq_false w).mpr h)
  · subst hcode
    rw [commandOfWrite_dcmd, commandOfWrite_ccmd]
    refine ⟨?_, ?_, ?_, ?_, ?_, ?_, ?_, ?_,
      fun h => deviceCommandOfWord_unlisted ((listedCode_device_eq_false w).mpr h),
      fun h => channelCommandOfWord_unlisted ((listedCode_channel_eq_false w).mpr h)⟩
    all_goals
      intro h
      simp only [deviceCommandOfWord, channelCommandOfWord, commandCode, h, and_self]
  · rw [commandOfWrite_tdata, commandOfRead_tdata]
    refine ⟨?_, ?_, ?_, ?_, rfl, fun h => ?_, ?_, ?_, fun a hcdata htdata => commandOfRead_none hcdata htdata t⟩
    · rintro rfl; rfl
    · rintro rfl; rfl
    · rintro rfl; rfl
    · rintro (rfl | rfl | rfl) <;> rfl
    · interval_cases t <;> rfl
    · rintro rfl; rfl
    · rintro rfl; rfl

end Sys2Proof.Machine
end

section
/-! SUPPORT. The Control Output Queue as a list: where a queued entry stands, a deferred Probe, and what every change of
the queue keeps (04 R59 to R62, R67, 05 R82). -/

namespace Sys2Proof.Machine

-- One theorem after another, as in the tests: many at once ask for more threads than there are.
set_option Elab.async false

/-! ### Channel and class (04 R59) -/

/-- What the queue holds once at most: the channel and class of an entry. -/
def CtlEntry.key (e : CtlEntry) : Chan × CtlClass := (e.chan, e.cls)

theorem CtlEntry.isFor_iff (e : CtlEntry) (c : Chan) (k : CtlClass) : e.isFor c k = true ↔ e.key = (c, k) := by
  simp [CtlEntry.isFor, CtlEntry.key]

theorem CtlEntry.isProbeOf_iff (e : CtlEntry) (c : Chan) :
    e.isProbeOf c = true ↔ e.key = (c, .request) ∧ e.opcode = .probe := by
  simp [CtlEntry.isProbeOf, CtlEntry.isFor_iff]

/-- With every key once, the key of an entry stands neither before nor behind it. -/
theorem keys_ne_of_nodup {before after : List CtlEntry} {x : CtlEntry}
    (h : ((before ++ x :: after).map CtlEntry.key).Nodup) :
    (∀ y ∈ before, y.key ≠ x.key) ∧ ∀ y ∈ after, y.key ≠ x.key := by
  have hperm : ((x :: (before ++ after)).map CtlEntry.key).Nodup := (List.perm_middle.map _).nodup_iff.mp h
  obtain ⟨hx, -⟩ := List.nodup_cons.mp hperm
  have hne : ∀ y ∈ before ++ after, y.key ≠ x.key := fun y hy hk => hx (hk ▸ List.mem_map_of_mem hy)
  exact ⟨fun y hy => hne y (List.mem_append_left _ hy), fun y hy => hne y (List.mem_append_right _ hy)⟩

/-! ### A queued entry (04 R60, R61) -/

/-- An entry with a key of its own joins the tail. -/
theorem enqueue_of_absent {q : List CtlEntry} {e : CtlEntry} (h : ∀ x ∈ q, x.key ≠ e.key) :
    enqueue q e = q ++ [e] := by
  refine if_neg ?_
  simp only [List.any_eq_true, CtlEntry.isFor_iff, not_exists, not_and]
  exact h

/-- The replacement in place leaves the entries of other keys alone. -/
theorem map_takeOver_of_absent {q : List CtlEntry} {e : CtlEntry} (h : ∀ x ∈ q, x.key ≠ e.key) :
    q.map (fun x => if x.isFor e.chan e.cls then x.takeOver e else x) = q :=
  (List.map_congr_left fun x hx => if_neg fun hfor => h x hx ((x.isFor_iff _ _).mp hfor)).trans (List.map_id' q)

/-- An entry whose key stands in the queue changes the entry that stands there, and no other. -/
theorem enqueue_of_present {before after : List CtlEntry} {old e : CtlEntry}
    (hnodup : ((before ++ old :: after).map CtlEntry.key).Nodup) (hkey : old.key = e.key) :
    enqueue (before ++ old :: after) e = before ++ old.takeOver e :: after := by
  obtain ⟨hbefore, hafter⟩ := keys_ne_of_nodup hnodup
  have hfor : old.isFor e.chan e.cls = true := (old.isFor_iff _ _).mpr hkey
  have hany : (before ++ old :: after).any (fun x => x.isFor e.chan e.cls) = true :=
    List.any_eq_true.mpr ⟨old, by simp, hfor⟩
  rw [enqueue, if_pos hany, List.map_append, List.map_cons, map_takeOver_of_absent (hkey ▸ hbefore),
    map_takeOver_of_absent (hkey ▸ hafter), if_pos hfor]

/-- An entry whose word changed is no longer the one on the line (04 R67). -/
theorem CtlEntry.takeOver_chosen {old new : CtlEntry}
    (h : (new.opcode, new.destStation, new.destChannel) ≠ (old.opcode, old.destStation, old.destChannel)) :
    (old.takeOver new).chosen = false := by
  unfold CtlEntry.takeOver
  split
  · rename_i hsame
    obtain ⟨hop, hst, hch⟩ := hsame
    exact absurd (by rw [hop, hst, hch]) h
  · rfl

/-! ### A deferred Probe (05 R82; log entry 30) -/

/-- A Probe goes directly behind the response, past the entries of other keys. -/
theorem placeBehindReply_of_split {c : Chan} {mid after : List CtlEntry} {p r : CtlEntry}
    (hmid : ∀ x ∈ mid, x.key ≠ r.key) (hr : r.key = (c, .response)) :
    placeBehindReply c p (mid ++ r :: after) = mid ++ r :: p :: after := by
  induction mid with
  | nil => exact if_pos ((r.isFor_iff _ _).mpr hr)
  | cons x mid ih =>
    obtain ⟨hx, hmid⟩ := List.forall_mem_cons.mp hmid
    have hfor : ¬ x.isFor c .response = true := fun h => hx (((x.isFor_iff _ _).mp h).trans hr.symm)
    rw [List.cons_append, placeBehindReply, if_neg hfor, ih hmid, List.cons_append]

/-- A channel's Probe that stands before its response moves directly behind it. -/
theorem deferProbe_of_split {c : Chan} {before mid after : List CtlEntry} {p r : CtlEntry}
    (hnodup : ((before ++ p :: (mid ++ r :: after)).map CtlEntry.key).Nodup) (hp : p.isProbeOf c = true)
    (hr : r.key = (c, .response)) :
    deferProbe c (before ++ p :: (mid ++ r :: after)) = before ++ (mid ++ r :: p :: after) := by
  induction before with
  | nil =>
    have hafter : ((mid ++ r :: after).map CtlEntry.key).Nodup := (List.nodup_cons.mp hnodup).2
    have hany : (mid ++ r :: after).any (fun x => x.isFor c .response) = true :=
      List.any_eq_true.mpr ⟨r, by simp, (r.isFor_iff _ _).mpr hr⟩
    rw [List.nil_append, deferProbe, if_pos (by rw [hp, hany]; rfl),
      placeBehindReply_of_split (keys_ne_of_nodup hafter).1 hr, List.nil_append]
  | cons x before ih =>
    have hx : ¬ x.isProbeOf c = true := fun h =>
      (keys_ne_of_nodup hnodup).1 x List.mem_cons_self <|
        ((x.isProbeOf_iff c).mp h).1.trans ((p.isProbeOf_iff c).mp hp).1.symm
    rw [List.cons_append, deferProbe, if_neg (by simp [hx]), ih (List.nodup_cons.mp hnodup).2, List.cons_append]

/-- Where no Probe of the channel stands before its response, nothing moves. -/
theorem deferProbe_of_no_split {c : Chan} {q : List CtlEntry}
    (h : ∀ (before mid after : List CtlEntry) (p r : CtlEntry), q = before ++ p :: (mid ++ r :: after) →
      ¬ (p.isProbeOf c = true ∧ r.key = (c, .response))) : deferProbe c q = q := by
  induction q with
  | nil => rfl
  | cons e rest ih =>
    have hstays : ¬ (e.isProbeOf c && rest.any (fun x => x.isFor c .response)) = true := by
      rw [Bool.and_eq_true, List.any_eq_true]
      rintro ⟨he, r, hmem, hr⟩
      obtain ⟨mid, after, rfl⟩ := List.append_of_mem hmem
      exact h [] mid after e r rfl ⟨he, (r.isFor_iff _ _).mp hr⟩
    rw [deferProbe, if_neg hstays, ih fun before mid after p r hsplit =>
      h (e :: before) mid after p r (by rw [hsplit, List.cons_append])]

/-- Settles O23: the place of a queued entry by its key, and the place of a deferred Probe. -/
theorem queuedEntryTakesItsPlace : Obligations.QueuedEntryTakesItsPlace := by
  unfold Obligations.QueuedEntryTakesItsPlace
  refine ⟨fun q e _ hnodup => ⟨enqueue_of_absent, ?_⟩, fun q c hnodup => ⟨?_, fun hno => ?_⟩⟩
  · rintro before after old rfl hkey
    obtain ⟨hchan, hcls, hop, hstation, hchannel⟩ := CtlEntry.takeOver_key ((old.isFor_iff e.chan e.cls).mpr hkey)
    refine ⟨old.takeOver e, enqueue_of_present hnodup hkey, hchan, hcls, hop, hstation, hchannel,
      fun hchanged => ?_⟩
    rw [hop, hstation, hchannel] at hchanged
    exact CtlEntry.takeOver_chosen hchanged
  · rintro before mid after p r rfl hp hr
    obtain ⟨hpchan, hpcls, hpop⟩ : p.chan = c ∧ p.cls = .request ∧ p.opcode = .probe := by simpa using hp
    have hprobe : p.isProbeOf c = true := by simp [CtlEntry.isProbeOf, CtlEntry.isFor, hpchan, hpcls, hpop]
    simp only [List.append_assoc, List.cons_append] at hnodup ⊢
    exact deferProbe_of_split hnodup hprobe hr
  · refine deferProbe_of_no_split fun before mid after p r hsplit hboth => ?_
    obtain ⟨hp, hr⟩ := hboth
    obtain ⟨hkey, hop⟩ := (p.isProbeOf_iff c).mp hp
    obtain ⟨hchan, hcls⟩ := Prod.mk.inj hkey
    exact hno before mid after p r (by simp [hsplit]) ⟨by rw [hchan, hcls, hop], hr⟩

/-! ### Order (04 R59) -/

/-- `QueueInOrder` of a queue. -/
def InOrder (q : List CtlEntry) : Prop :=
  (q.map CtlEntry.key).Nodup ∧ ∀ e ∈ q, e.cls.allows e.opcode = true

/-- The invariant speaks of the queue alone. -/
theorem queueInOrder_iff (s : State) : QueueInOrder s ↔ InOrder s.lnk.queue := Iff.rfl

/-- What a step can do to the queue: queue an entry whose opcode is of its class, take entries out, note which entry is
on the line, or change the order. -/
inductive QueueMoves : List CtlEntry → List CtlEntry → Prop
  | same (q : List CtlEntry) : QueueMoves q q
  | trans {q r t : List CtlEntry} (h : QueueMoves q r) (k : QueueMoves r t) : QueueMoves q t
  | enqueue (q : List CtlEntry) {e : CtlEntry} (h : e.cls.allows e.opcode = true) : QueueMoves q (enqueue q e)
  | drop (q : List CtlEntry) (p : CtlEntry → Bool) : QueueMoves q (q.filter p)
  | note {q r : List CtlEntry} (h : r.map CtlEntry.unchosen = q.map CtlEntry.unchosen) : QueueMoves q r
  | reorder {q r : List CtlEntry} (h : r.Perm q) : QueueMoves q r

/-- An entry that takes over keeps its key. -/
theorem CtlEntry.key_replaced (x e : CtlEntry) :
    (if x.isFor e.chan e.cls then x.takeOver e else x).key = x.key := by
  split
  · rename_i hfor
    obtain ⟨hchan, hcls, -⟩ := CtlEntry.takeOver_key hfor
    rw [(x.isFor_iff _ _).mp hfor, CtlEntry.key, hchan, hcls]
  · rfl

theorem InOrder.enqueue {q : List CtlEntry} (h : InOrder q) {e : CtlEntry} (he : e.cls.allows e.opcode = true) :
    InOrder (enqueue q e) := by
  obtain ⟨hnodup, hallows⟩ := h
  refine ⟨?_, fun x hx => ?_⟩
  · by_cases hany : q.any (fun x => x.isFor e.chan e.cls) = true
    · rw [Machine.enqueue, if_pos hany, List.map_map, List.map_congr_left fun x _ => x.key_replaced e]
      exact hnodup
    · have habsent : ∀ x ∈ q, x.key ≠ e.key := fun x hx hkey =>
        hany (List.any_eq_true.mpr ⟨x, hx, (x.isFor_iff _ _).mpr hkey⟩)
      rw [enqueue_of_absent habsent, List.map_append]
      refine hnodup.append (List.nodup_singleton _) ?_
      simpa [List.Disjoint] using habsent
  · rcases mem_enqueue hx with hx | rfl | ⟨old, -, hfor, rfl⟩
    · exact hallows x hx
    · exact he
    · obtain ⟨-, hcls, hop, -⟩ := CtlEntry.takeOver_key hfor
      rw [hcls, hop, he]

theorem InOrder.filter {q : List CtlEntry} (h : InOrder q) (p : CtlEntry → Bool) : InOrder (q.filter p) :=
  ⟨h.1.sublist (List.filter_sublist.map _), fun e he => h.2 e (List.mem_of_mem_filter he)⟩

theorem InOrder.perm {q r : List CtlEntry} (h : InOrder q) (hperm : r.Perm q) : InOrder r :=
  ⟨(hperm.map _).nodup_iff.mpr h.1, fun e he => h.2 e (hperm.mem_iff.mp he)⟩

/-- The order of a queue does not depend on which entry is on the line. -/
theorem inOrder_unchosen (q : List CtlEntry) : InOrder (q.map CtlEntry.unchosen) ↔ InOrder q := by
  simp only [InOrder, List.map_map, List.forall_mem_map]
  exact Iff.rfl

/-- Every move of a step keeps the queue in order. -/
theorem QueueMoves.inOrder {q r : List CtlEntry} (h : QueueMoves q r) : InOrder q → InOrder r := by
  induction h with
  | same => exact id
  | trans _ _ ihq ihr => exact ihr ∘ ihq
  | enqueue q he => exact fun hq => hq.enqueue he
  | drop q p => exact fun hq => hq.filter p
  | note hnote => rw [← inOrder_unchosen, ← hnote, inOrder_unchosen]; exact id
  | reorder hperm => exact fun hq => hq.perm hperm

end Sys2Proof.Machine
end

section
/-! SUPPORT. What the operations and the commands do to the Control Output Queue: most leave it alone, and the others
change it by moves that keep it in order (04 R59). -/

namespace Sys2Proof.Machine

-- One theorem after another, as in the tests: many at once ask for more threads than there are.
set_option Elab.async false

/-- From `s` to `t` the queue changed by moves of a step. -/
def MovesQueue (s t : State) : Prop := QueueMoves s.lnk.queue t.lnk.queue

namespace MovesQueue

/-! ### What gives it -/

/-- What leaves the queue alone. -/
theorem elsewhere {s t : State} (h : t.lnk.queue = s.lnk.queue := by rfl) : MovesQueue s t := by
  rw [MovesQueue, h]
  exact .same _

theorem same (s : State) : MovesQueue s s := QueueMoves.same _

theorem trans {s t u : State} (h : MovesQueue s t) (k : MovesQueue t u) : MovesQueue s u := QueueMoves.trans h k

/-- A sequence of steps that move the queue. -/
theorem foldl {α : Type} {f : State → α → State} (hf : ∀ s a, MovesQueue s (f s a)) (l : List α) (s : State) :
    MovesQueue s (l.foldl f s) := by
  induction l generalizing s with
  | nil => exact same s
  | cons a l ih => exact (hf s a).trans (ih (f s a))

theorem finish {s t : State} (h : MovesQueue s t) : Ensures (finish t) (MovesQueue s) := .next h

theorem finishDevice {s t : State} (h : MovesQueue s t) (r : CmdResult) : Ensures (finishDevice t r) (MovesQueue s) :=
  .next h

theorem finishChannel {s t : State} (h : MovesQueue s t) (r : CmdResult) :
    Ensures (finishChannel t r) (MovesQueue s) := .next h

section
variable (s : State) (c : Chan)

/-! ### Entries queued, withdrawn and deferred (04 R60 to R62, 05 R82) -/

theorem withdraw (p : Opcode → Bool) : MovesQueue s (s.withdraw c p) := .drop _ _

theorem deferProbe : MovesQueue s (s.deferProbe c) := .reorder (deferProbe_perm c _)

theorem queueRequest {op : Opcode} (h : CtlClass.request.allows op = true) : MovesQueue s (s.queueRequest c op) :=
  .enqueue _ h

theorem queueResponse {op : Opcode} (h : CtlClass.response.allows op = true) (station channel : Address)
    (matched : Bool) : MovesQueue s (s.queueResponse c op station channel matched) := by
  unfold State.queueResponse
  split
  · exact same s
  · exact .enqueue _ h

theorem replyPeer {op : Opcode} (h : CtlClass.response.allows op = true) : MovesQueue s (s.replyPeer c op) :=
  queueResponse s c h _ _ _

/-! ### Link operations (05 section 5.2 to 5.6) -/

theorem flushTx (status : CqStatus) : MovesQueue s (s.flushTx c status) := by
  unfold State.flushTx
  dsimp only
  split <;> exact elsewhere

theorem closeConnected (cause : Cause) : MovesQueue s (s.closeConnected c cause) :=
  (flushTx s c _).trans (.drop _ _)

theorem enterOpen : MovesQueue s (s.enterOpen c) := (withdraw s c fun _ => true).trans elsewhere

theorem enterFault (cause : Cause) : MovesQueue s (s.enterFault c cause) := (flushTx s c _).trans (.drop _ _)

theorem closeUnconnected (cause : Cause) : MovesQueue s (s.closeUnconnected c cause) :=
  (flushTx s c _).trans elsewhere

theorem closeUnopened : MovesQueue s (s.closeUnopened c) := (closeUnconnected s c _).trans (withdraw _ c _)

theorem peerRestart : MovesQueue s (s.peerRestart c) := by
  have hcleared := (flushTx s c .peerReset).trans
    (elsewhere (t := (s.flushTx c .peerReset).modChan c fun ch => ch.rxAbort.zeroCredits.clearMarks))
  exact ((hcleared.trans (replyPeer _ c (op := .openAck) (by decide))).trans (deferProbe _ c)).trans elsewhere

theorem startOpening : MovesQueue s (s.startOpening c) := (queueRequest s c (op := .open_) (by decide)).trans elsewhere

theorem completeDrain : MovesQueue s (s.completeDrain c) := by
  unfold State.completeDrain
  dsimp only
  split
  · exact (queueRequest s c (op := .close) (by decide)).trans elsewhere
  · exact (replyPeer s c (by decide)).trans (closeConnected _ c _)
  · exact closeConnected s c _
  · exact same s

theorem takeDrain : MovesQueue s (s.takeDrain c) := by
  unfold State.takeDrain
  split
  · exact completeDrain s c
  · exact same s

/-- What is sent again is Open or Close (05 R92). -/
theorem retryOpcode_allowed (ch : Channel) : CtlClass.request.allows ch.retryOpcode = true := by
  unfold Channel.retryOpcode
  split <;> rfl

theorem takeAnswerExpiry : MovesQueue s (s.takeAnswerExpiry c) := by
  unfold State.takeAnswerExpiry
  dsimp only
  split
  · split
    · split
      · exact (queueRequest s c (retryOpcode_allowed _)).trans elsewhere
      · split
        · exact enterFault s c _
        · exact closeConnected s c _
    · exact elsewhere
  · exact same s

theorem takeProbeExpiry : MovesQueue s (s.takeProbeExpiry c) := by
  unfold State.takeProbeExpiry
  split
  · exact (queueRequest s c (op := .probe) (by decide)).trans elsewhere
  · exact same s

theorem takeRefresh : MovesQueue s s.takeRefresh := by
  rw [State.takeRefresh_frame]
  exact elsewhere

theorem mapTest : MovesQueue s s.mapTest := by
  rw [State.mapTest_frame]
  exact elsewhere

theorem takeDue : MovesQueue s s.takeDue :=
  ((((mapTest s).trans (foldl takeAnswerExpiry _ _)).trans (foldl takeProbeExpiry _ _)).trans (takeRefresh _)).trans
    (foldl takeDrain _ _)

/-! ### Channel commands (05 R77, R78) -/

theorem closeCredit : MovesQueue s (s.closeCredit c) := by
  have hdrained : MovesQueue s (s.modChan c fun ch => ch.dropComposing.moveTo .drain) := elsewhere
  unfold State.closeCredit
  dsimp only
  split
  · exact hdrained.trans (completeDrain _ c)
  · exact hdrained

theorem closeStream : MovesQueue s (s.closeStream c) := by
  have hdrained : ∀ f, MovesQueue s (s.modChan c f) := fun _ => elsewhere
  unfold State.closeStream
  dsimp only
  split
  · exact (hdrained _).trans (completeDrain _ c)
  · exact hdrained _

theorem resetConnected : MovesQueue s (s.resetConnected c) := by
  unfold State.resetConnected
  split
  · exact (queueRequest s c (by decide)).trans (closeConnected _ c _)
  · exact closeConnected s c _

/-! ### Received control words (04 R55 to R58, 05 section 5.4) -/

theorem whenConnected (f : Channel → Channel) : MovesQueue s (s.whenConnected c f) := by
  unfold State.whenConnected
  split <;> exact elsewhere

theorem matchedOpen : MovesQueue s (s.matchedOpen c) := by
  have hack := replyPeer s c (op := .openAck) (by decide)
  have hreset := replyPeer s c (op := .reset) (by decide)
  unfold State.matchedOpen
  split
  case h_1 | h_2 => exact hack.trans (enterOpen _ c)
  case h_3 => exact peerRestart s c
  case h_7 | h_8 => exact hreset
  all_goals exact hreset.trans (closeConnected _ c _)

theorem matchedOpenAck : MovesQueue s (s.matchedOpenAck c) := by
  unfold State.matchedOpenAck
  split
  case h_1 => exact enterOpen s c
  case h_2 => exact replyPeer s c (by decide)
  all_goals exact same s

theorem matchedClose : MovesQueue s (s.matchedClose c) := by
  unfold State.matchedClose
  split
  case h_1 =>
    split
    · exact (replyPeer s c (by decide)).trans (closeConnected _ c _)
    · exact elsewhere
  case h_2 => exact elsewhere
  case h_8 => exact same s
  all_goals exact replyPeer s c (by decide)

theorem matchedCloseAck : MovesQueue s (s.matchedCloseAck c) := by
  unfold State.matchedCloseAck
  split
  · exact closeConnected s c _
  · exact same s

theorem matchedReset : MovesQueue s (s.matchedReset c) := by
  unfold State.matchedReset
  split
  case h_1 => exact enterFault s c _
  case h_6 | h_7 | h_8 => exact same s
  all_goals exact closeConnected s c _

theorem matchedWord (op : Opcode) (v : BitVec 5) : MovesQueue s (s.matchedWord c op v) := by
  cases op
  case open_ => exact matchedOpen s c
  case openAck => exact matchedOpenAck s c
  case close => exact matchedClose s c
  case closeAck => exact matchedCloseAck s c
  case reset => exact matchedReset s c
  case probe | wordLevel | msgLevel => exact whenConnected s c _

theorem takeControl (source : Address) (w : Word) : MovesQueue s (s.takeControl source w) := by
  unfold State.takeControl State.unmatchedWord
  dsimp only
  split_ifs
  · exact same s
  · exact elsewhere
  · exact matchedWord s _ _ _
  · exact (elsewhere (t := s.countHw .unmatchedControl)).trans (queueResponse _ _ (by decide) _ _ _)
  · exact elsewhere

theorem receiveControl (source : Address) (w : Received) : MovesQueue s (s.receiveControl source w) := by
  unfold State.receiveControl
  split
  case h_1 | h_2 | h_3 => exact same s
  case h_4 => exact takeControl s _ _
  all_goals exact elsewhere

/-! ### Slots and frames -/

theorem screen (w : Received) : MovesQueue s (s.screen w) := by
  unfold State.screen
  split <;> exact elsewhere

theorem disposeUnused (w : Received) : MovesQueue s (s.disposeUnused w) := by
  unfold State.disposeUnused
  split <;> exact elsewhere

theorem takeData (k : Kind) (p : Word) : MovesQueue s (s.takeData c k p) := by
  unfold State.takeData
  dsimp only
  split <;> exact elsewhere

theorem receiveData (w : Received) : MovesQueue s (s.receiveData c w) := by
  have hdata : ∀ k p, MovesQueue s (if (s.chan c).receiving then s.takeData c k p else s.countHw .strays) := by
    intro k p
    split
    · exact takeData s c k p
    · exact elsewhere
  unfold State.receiveData
  split
  case h_1 => split <;> exact elsewhere
  case h_2 | h_3 | h_4 | h_5 => exact elsewhere
  all_goals exact hdata _ _

theorem endLine (clash : Bool) : MovesQueue s (s.endLine clash) := by
  rw [State.endLine_eq]
  exact elsewhere

theorem reportCredit (clash : Bool) : MovesQueue s (s.reportCredit c clash) := by
  unfold State.reportCredit
  dsimp only
  split
  · split <;> exact elsewhere
  · exact elsewhere

theorem settleControl (clash : Bool) : MovesQueue s (s.settleControl clash) := by
  cases clash
  · exact .drop _ _
  · exact .note (by simp [State.settleControl, settleQueue, CtlEntry.unchosen])

theorem arbitrate : MovesQueue s s.arbitrate.2 := by
  unfold State.arbitrate
  split
  · rename_i hq
    exact .note (by rw [hq]; rfl)
  · split <;> exact elsewhere

theorem frameStart : MovesQueue s s.frameStart := elsewhere

theorem loseHighway (dest : Sync) (pulse : Option Nat) : MovesQueue s (s.loseHighway dest pulse) :=
  .note (by simp [State.loseHighway, CtlEntry.unchosen])

theorem loseLock (pulse : Option Nat) : MovesQueue s (s.loseLock pulse) :=
  (elsewhere (t := (s.countHw .syncMisses).raise .lockLost)).trans (loseHighway _ _ _)

theorem masterConflict : MovesQueue s s.masterConflict :=
  (elsewhere (t := (s.lineFault .clashes).raise .masterConflict)).trans (loseHighway _ _ _)

theorem checkHeader (line : SlotBits) : MovesQueue s (s.checkHeader line) := by
  unfold State.checkHeader
  split
  · split <;> exact elsewhere
  · exact elsewhere

theorem inFollowerFrame : MovesQueue s s.inFollowerFrame := by
  unfold State.inFollowerFrame
  split <;> exact elsewhere

theorem inMasterFrame : MovesQueue s s.inMasterFrame := by
  unfold State.inMasterFrame
  split <;> exact elsewhere

end

end MovesQueue

end Sys2Proof.Machine
end

section
/-! SUPPORT. The Control Output Queue in every command, and that it stays in order in every step (04 R59). -/

namespace Sys2Proof.Machine

-- One theorem after another, as in the tests: many at once ask for more threads than there are.
set_option Elab.async false

open MovesQueue (same elsewhere)

/-! ### Commands with no part in the queue -/

section
variable (s : State)

theorem execStart_movesQueue : Ensures (execStart s) (MovesQueue s) := by
  refine .live (same s) fun _ => ?_
  split
  · refine MovesQueue.finishDevice ?_ _
    unfold State.startHighway
    split <;> exact elsewhere
  all_goals exact (same s).finishDevice _

theorem execSwitch_movesQueue : Ensures (execSwitch s) (MovesQueue s) := by
  refine .live (same s) fun _ => ?_
  split_ifs <;> exact (elsewhere).finishDevice _

theorem execCancel_movesQueue : Ensures (execCancel s) (MovesQueue s) := by
  refine .live (same s) fun _ => ?_
  split_ifs <;> exact (elsewhere).finishDevice _

theorem execPopcq_movesQueue : Ensures (execPopcq s) (MovesQueue s) := by
  refine .live (same s) fun _ => ?_
  split <;> exact (elsewhere).finishDevice _

theorem execUnknownCommandCode_movesQueue (port : CmdPort) (w : Word) :
    Ensures (execUnknownCommandCode port w s) (MovesQueue s) := by
  refine .live (same s) fun _ => ?_
  split
  · exact .next (same s)
  · cases port
    · exact (same s).finishDevice _
    · exact (same s).finishChannel _

theorem execChanListen_movesQueue : Ensures (execChanListen s) (MovesQueue s) := by
  refine .live (same s) fun _ => ?_
  dsimp only
  split_ifs <;> exact (elsewhere).finishChannel _

theorem execChanFlush_movesQueue : Ensures (execChanFlush s) (MovesQueue s) := by
  refine .live (same s) fun _ => ?_
  dsimp only
  split_ifs <;> exact (elsewhere).finishChannel _

theorem execChanPost_movesQueue : Ensures (execChanPost s) (MovesQueue s) := by
  refine .live (same s) fun _ => ?_
  split
  · unfold State.postCredit
    dsimp only
    split_ifs <;> exact (elsewhere).finishChannel _
  · unfold State.postStream
    dsimp only
    split_ifs <;> exact (elsewhere).finishChannel _

theorem execChanAbandon_movesQueue : Ensures (execChanAbandon s) (MovesQueue s) := by
  refine .live (same s) fun _ => ?_
  split
  · unfold State.abandonCredit
    split_ifs <;> exact (elsewhere).finishChannel _
  · unfold State.abandonStream
    dsimp only
    split_ifs <;> exact (elsewhere).finishChannel _

theorem execChanRelease_movesQueue : Ensures (execChanRelease s) (MovesQueue s) := by
  refine .live (same s) fun _ => ?_
  split
  · exact (same s).finishChannel _
  · split_ifs <;> exact (elsewhere).finishChannel _

theorem execCdataWrite_movesQueue (w : Word) : Ensures (execCdataWrite w s) (MovesQueue s) := by
  refine .live (same s) fun _ => ?_
  dsimp only
  split_ifs
  · exact (elsewhere).finish
  · exact .fault _
  · exact (elsewhere).finish

theorem execCdataRead_movesQueue : Ensures (execCdataRead s) (MovesQueue s) := by
  refine .live (same s) fun _ => ?_
  dsimp only
  split
  · exact (elsewhere).finish
  · split_ifs
    · exact (elsewhere).finish
    · exact .fault _
    · exact (elsewhere).finish

theorem execHcfgWrite_movesQueue (w : Word) : Ensures (execHcfgWrite w s) (MovesQueue s) := by
  refine .live (same s) fun _ => ?_
  split
  · exact (elsewhere).finish
  · exact (same s).finishDevice _

theorem execHdivWrite_movesQueue (w : Word) : Ensures (execHdivWrite w s) (MovesQueue s) := by
  refine .live (same s) fun _ => ?_
  split
  · exact (elsewhere).finish
  · exact (same s).finishDevice _

theorem execCqthrWrite_movesQueue (w : Word) : Ensures (execCqthrWrite w s) (MovesQueue s) := by
  refine .live (same s) fun _ => ?_
  dsimp only
  split
  · exact (elsewhere).finish
  · exact (same s).finishDevice _

theorem execTimingWrite_movesQueue (w : Word) : Ensures (execTimingWrite w s) (MovesQueue s) := by
  refine .live (same s) fun _ => ?_
  split_ifs
  · exact (same s).finishDevice _
  · exact (elsewhere).finish

theorem execTiming2Write_movesQueue (w : Word) : Ensures (execTiming2Write w s) (MovesQueue s) := by
  refine .live (same s) fun _ => ?_
  split_ifs
  · exact (same s).finishDevice _
  · exact (elsewhere).finish

theorem execTselWrite_movesQueue (w : Word) : Ensures (execTselWrite w s) (MovesQueue s) := by
  refine .live (same s) fun _ => ?_
  split
  · exact (elsewhere).finish
  · exact (same s).finishDevice _

theorem execRegisterWrite_movesQueue (r : PlainReg) (w : Word) : Ensures (execRegisterWrite r w s) (MovesQueue s) := by
  refine .live (same s) fun _ => ?_
  cases r <;> exact (elsewhere).finish

theorem tableAccess_movesQueue {act : State} {tables : List Nat} (h : MovesQueue s act) :
    Ensures (tableAccess s tables act) (MovesQueue s) :=
  tableAccess_ensures s (same s) fun _ _ => h

theorem State.writePending_movesQueue (n : Slot) (w : Word) : MovesQueue s (s.writePending n w) := by
  unfold State.writePending
  split
  · exact elsewhere
  · split <;> exact elsewhere

theorem State.writeRegion_movesQueue (i : Nat) (w : Word) : MovesQueue s (s.writeRegion i w) := by
  unfold State.writeRegion
  dsimp only
  split
  · exact elsewhere
  · split <;> exact elsewhere

theorem State.writeConfig_movesQueue (i : Nat) (w : Word) : MovesQueue s (s.writeConfig i w) := by
  unfold State.writeConfig
  dsimp only
  split
  · exact elsewhere
  · split <;> exact elsewhere

theorem execAcquirePulse_movesQueue (clock : Nat) : Ensures (execAcquirePulse clock s) (MovesQueue s) := by
  refine .live (same s) fun _ => ?_
  split_ifs
  · exact (elsewhere).finish
  · exact (elsewhere).finish
  · exact .next (same s)
  · exact .next (same s)

theorem execTxdataReport_movesQueue (line : SlotBits) : Ensures (execTxdataReport line s) (MovesQueue s) := by
  have hend := MovesQueue.endLine s
  refine .live (same s) fun _ => ?_
  split
  · exact .next (same s)
  · dsimp only
    split
    · exact ((hend _).trans (.reportCredit _ _ _)).finish
    · exact ((hend _).trans elsewhere).finish
    · exact ((hend _).trans elsewhere).finish
    · exact (hend _).finish
    · exact .next (same s)

end

/-! ### Commands of the link and the resets -/

section
variable (s : State)

theorem execStop_movesQueue : Ensures (execStop s) (MovesQueue s) := by
  have hlost := (MovesQueue.takeDue s).trans (.loseHighway _ .off none)
  refine .live (same s) fun _ => ?_
  split
  · exact (same s).finishDevice _
  · exact (elsewhere).finishDevice _
  · exact hlost.finishDevice _
  · exact hlost.finishDevice _

/-- The resets empty the queue. -/
theorem movesQueue_of_empty {s t : State} (h : t.lnk.queue = []) : MovesQueue s t := by
  rw [MovesQueue, h, ← List.filter_false s.lnk.queue]
  exact .drop _ _

theorem execSoftreset_movesQueue : Ensures (execSoftreset s) (MovesQueue s) :=
  .live (same s) fun _ => (movesQueue_of_empty rfl).finishDevice _

theorem execResetPin_movesQueue (asserted : Bool) : Ensures (execResetPin asserted s) (MovesQueue s) := by
  cases asserted
  · exact .next elsewhere
  · exact .next (movesQueue_of_empty rfl)

theorem execChanOpen_movesQueue : Ensures (execChanOpen s) (MovesQueue s) := by
  have hrefuse := fun r => (same s).finishChannel r
  have hopening := (MovesQueue.startOpening s s.host.selected).finishChannel .done
  have hopen := (MovesQueue.enterOpen s s.host.selected).finishChannel .done
  refine .live (same s) fun _ => ?_
  dsimp only
  split
  · split_ifs
    · exact hrefuse _
    · exact hrefuse _
    · exact hopening
  · split_ifs
    · exact hrefuse _
    · exact hrefuse _
    · exact hopen
  · split_ifs
    · exact hrefuse _
    · exact hopening
  · exact hrefuse _

theorem execChanClose_movesQueue : Ensures (execChanClose s) (MovesQueue s) := by
  refine .live (same s) fun _ => ?_
  dsimp only
  split
  case h_1 =>
    split
    · exact (MovesQueue.closeCredit s _).finishChannel _
    · exact (MovesQueue.closeStream s _).finishChannel _
  case h_2 | h_3 => exact (MovesQueue.closeUnopened s _).finishChannel _
  all_goals exact (same s).finishChannel _

theorem execChanReset_movesQueue : Ensures (execChanReset s) (MovesQueue s) := by
  refine .live (same s) fun _ => ?_
  dsimp only
  split
  case h_1 =>
    have hqueued := MovesQueue.queueRequest s s.host.selected (op := .reset) (by decide)
    exact (hqueued.trans (.closeUnconnected _ _ _)).finishChannel _
  case h_2 => exact (MovesQueue.closeUnconnected s _ _).finishChannel _
  case h_7 | h_8 => exact (same s).finishChannel _
  all_goals exact (MovesQueue.resetConnected s _).finishChannel _

/-! ### Synchronisation and frames -/

theorem execCandidateHeader_movesQueue (line : SlotBits) : Ensures (execCandidateHeader line s) (MovesQueue s) := by
  have hdue := MovesQueue.takeDue s
  refine .live (same s) fun _ => ?_
  dsimp only
  generalize s.takeDue = t at hdue ⊢
  split
  · split <;> exact (hdue.trans elsewhere).finish
  · exact .next (same s)

theorem execSyncMiss_movesQueue : Ensures (execSyncMiss s) (MovesQueue s) := by
  have hdue := MovesQueue.takeDue s
  refine .live (same s) fun _ => ?_
  dsimp only
  generalize s.takeDue = t at hdue ⊢
  split
  · exact (hdue.trans elsewhere).finish
  · exact .next (same s)

theorem execHoldoverMiss_movesQueue : Ensures (execHoldoverMiss s) (MovesQueue s) := by
  refine .live (same s) fun _ => ?_
  split
  · exact ((MovesQueue.takeDue s).trans (.loseLock _ _)).finish
  · exact .next (same s)

theorem execMisplacedPulse_movesQueue (bit : Nat) : Ensures (execMisplacedPulse bit s) (MovesQueue s) := by
  have hdue := MovesQueue.takeDue s
  refine .live (same s) fun _ => ?_
  dsimp only
  generalize s.takeDue = t at hdue ⊢
  have hnoted : ∀ k, MovesQueue s (t.noteHsync k) := fun k => hdue.trans elsewhere
  split_ifs
  · exact ((hnoted _).trans (.loseLock _ _)).finish
  · exact (hnoted _).finish
  · exact .next (same s)
  · exact .next (same s)

theorem execPulseAtExpectedBit_movesQueue : Ensures (execPulseAtExpectedBit s) (MovesQueue s) := by
  have hdue := MovesQueue.takeDue s
  refine .live (same s) fun _ => ?_
  dsimp only
  generalize s.takeDue = t at hdue ⊢
  split_ifs
  · exact (hdue.trans elsewhere).finish
  · exact (hdue.trans elsewhere).finish
  · exact .next (same s)
  · exact .next (same s)

theorem execFollowerHeaderSlot_movesQueue (line : SlotBits) :
    Ensures (execFollowerHeaderSlot line s) (MovesQueue s) := by
  have hframe := (MovesQueue.takeDue s).trans (.inFollowerFrame _)
  refine .live (same s) fun _ => ?_
  split
  · exact ((hframe.trans (.checkHeader _ line)).trans (.frameStart _)).finish
  · exact .next (same s)

theorem execMasterHeaderSlot_movesQueue (line : SlotBits) : Ensures (execMasterHeaderSlot line s) (MovesQueue s) := by
  have hframe := (MovesQueue.takeDue s).trans (.inMasterFrame _)
  refine .live (same s) fun _ => ?_
  dsimp only
  split_ifs
  · exact (hframe.trans (.masterConflict _)).finish
  · exact (hframe.trans (.frameStart _)).finish
  · exact .next (same s)

/-! ### Slots -/

/-- A slot begins after the steps that are due. -/
theorem takeDue_enterSlot_movesQueue (n : Slot) : MovesQueue s (s.takeDue.enterSlot n) := by
  have hdue := MovesQueue.takeDue s
  generalize s.takeDue = t at hdue ⊢
  exact hdue.trans elsewhere

theorem execTxdataOffer_movesQueue (n : Slot) : Ensures (execTxdataOffer n s) (MovesQueue s) := by
  have hdue := MovesQueue.takeDue s
  refine .live (same s) fun _ => ?_
  dsimp only
  generalize s.takeDue = t at hdue ⊢
  split
  · split
    · unfold State.driveAnswer
      split
      · exact (hdue.trans elsewhere).finish
      · split_ifs
        · exact (hdue.trans elsewhere).finish
        · exact .fault _
    · exact (hdue.trans elsewhere).finish
  · exact .next (same s)

theorem execTxcontrolOffer_movesQueue (n : Slot) : Ensures (execTxcontrolOffer n s) (MovesQueue s) := by
  have harb := (MovesQueue.takeDue s).trans (.arbitrate _)
  refine .live (same s) fun _ => ?_
  dsimp only
  generalize s.takeDue = t at harb ⊢
  split
  · split
    all_goals
      rename_i hanswer
      rw [hanswer] at harb
      exact (harb.trans elsewhere).finish
  · exact .next (same s)

theorem execTxcontrolReport_movesQueue (line : SlotBits) : Ensures (execTxcontrolReport line s) (MovesQueue s) := by
  refine .live (same s) fun _ => ?_
  split
  · exact .next (same s)
  · split
    · exact ((MovesQueue.endLine s _).trans (.settleControl _ _)).finish
    all_goals exact .next (same s)

theorem execRxdataWord_movesQueue (n : Slot) (line : SlotBits) : Ensures (execRxdataWord n line s) (MovesQueue s) := by
  have henter := takeDue_enterSlot_movesQueue s n
  refine .live (same s) fun _ => ?_
  dsimp only
  split
  · split_ifs
    · exact .fault _
    · exact ((henter.trans (.screen _ _)).trans (.receiveData _ _ _)).finish
  · exact .next (same s)

theorem execRxcontrolWord_movesQueue (n : Slot) (line : SlotBits) :
    Ensures (execRxcontrolWord n line s) (MovesQueue s) := by
  have henter := takeDue_enterSlot_movesQueue s n
  refine .live (same s) fun _ => ?_
  dsimp only
  split
  · exact ((henter.trans (.screen _ _)).trans (.receiveControl _ _ _)).finish
  · exact .next (same s)

theorem execUnusedSlotWord_movesQueue (n : Slot) (line : SlotBits) :
    Ensures (execUnusedSlotWord n line s) (MovesQueue s) := by
  have henter := takeDue_enterSlot_movesQueue s n
  refine .live (same s) fun _ => ?_
  dsimp only
  split
  · exact (henter.trans (.disposeUnused _ _)).finish
  · exact .next (same s)

end

/-! ### Every command -/

theorem exec_movesQueue (i : Instr) (s : State) : Ensures (exec i s) (MovesQueue s) := by
  cases i
  case start => exact execStart_movesQueue s
  case stop => exact execStop_movesQueue s
  case switch => exact execSwitch_movesQueue s
  case cancel => exact execCancel_movesQueue s
  case popcq => exact execPopcq_movesQueue s
  case softreset => exact execSoftreset_movesQueue s
  case unknownCommandCode port w => exact execUnknownCommandCode_movesQueue s port w
  case chanOpen => exact execChanOpen_movesQueue s
  case chanListen => exact execChanListen_movesQueue s
  case chanClose => exact execChanClose_movesQueue s
  case chanReset => exact execChanReset_movesQueue s
  case chanFlush => exact execChanFlush_movesQueue s
  case chanPost => exact execChanPost_movesQueue s
  case chanAbandon => exact execChanAbandon_movesQueue s
  case chanRelease => exact execChanRelease_movesQueue s
  case cdataWrite w => exact execCdataWrite_movesQueue s w
  case cdataRead => exact execCdataRead_movesQueue s
  case hcfgWrite w => exact execHcfgWrite_movesQueue s w
  case hdivWrite w => exact execHdivWrite_movesQueue s w
  case devpendWrite w => exact .live (same s) fun _ => (elsewhere).finish
  case devenWrite w => exact .live (same s) fun _ => (elsewhere).finish
  case ceventWrite w => exact .live (same s) fun _ => (elsewhere).finish
  case timingWrite w => exact execTimingWrite_movesQueue s w
  case timing2Write w => exact execTiming2Write_movesQueue s w
  case cqthrWrite w => exact execCqthrWrite_movesQueue s w
  case tselWrite w => exact execTselWrite_movesQueue s w
  case pendingBankWrite w => exact tableAccess_movesQueue s (s.writePending_movesQueue _ w)
  case regionTableWrite w => exact tableAccess_movesQueue s (s.writeRegion_movesQueue _ w)
  case configWordWrite w => exact tableAccess_movesQueue s (s.writeConfig_movesQueue _ w)
  case channelCounterRead => exact tableAccess_movesQueue s elsewhere
  case highwayCounterRead => exact tableAccess_movesQueue s elsewhere
  case tableRead => exact tableAccess_movesQueue s elsewhere
  case tableWriteIgnored w => exact tableAccess_movesQueue s (same s)
  case registerWrite r w => exact execRegisterWrite_movesQueue s r w
  case resetPin asserted => exact execResetPin_movesQueue s asserted
  case acquirePulse clock => exact execAcquirePulse_movesQueue s clock
  case candidateHeader line => exact execCandidateHeader_movesQueue s line
  case syncMiss => exact execSyncMiss_movesQueue s
  case holdoverMiss => exact execHoldoverMiss_movesQueue s
  case misplacedPulse bit => exact execMisplacedPulse_movesQueue s bit
  case followerHeaderSlot line => exact execFollowerHeaderSlot_movesQueue s line
  case masterHeaderSlot line => exact execMasterHeaderSlot_movesQueue s line
  case mapSwitch => exact .live (same s) fun _ => (MovesQueue.mapTest s).finish
  case answerTimerExpiry c => exact .live (same s) fun _ => (MovesQueue.takeAnswerExpiry s c).finish
  case probeTimerExpiry c => exact .live (same s) fun _ => (MovesQueue.takeProbeExpiry s c).finish
  case refreshTimerExpiry => exact .live (same s) fun _ => (MovesQueue.takeRefresh s).finish
  case txdataOffer n => exact execTxdataOffer_movesQueue s n
  case txdataReport line => exact execTxdataReport_movesQueue s line
  case drainCompletion c => exact .live (same s) fun _ => (MovesQueue.takeDrain s c).finish
  case txcontrolOffer n => exact execTxcontrolOffer_movesQueue s n
  case txcontrolReport line => exact execTxcontrolReport_movesQueue s line
  case rxdataWord n line => exact execRxdataWord_movesQueue s n line
  case rxcontrolWord n line => exact execRxcontrolWord_movesQueue s n line
  case unusedSlotWord n line => exact execUnusedSlotWord_movesQueue s n line
  case pulseAtExpectedBit => exact execPulseAtExpectedBit_movesQueue s

/-- Settles O11: a command changes the queue by moves that keep it in order. -/
theorem controlQueueStaysInOrder : Obligations.ControlQueueStaysInOrder := by
  unfold Obligations.ControlQueueStaysInOrder
  intro s t h hstep
  unfold step at hstep
  split at hstep
  · cases hstep
    exact h
  · rename_i i rest _
    have hmoves : MovesQueue s t := exec_movesQueue i { s with pending := rest } t hstep
    exact (queueInOrder_iff t).mpr (hmoves.inOrder ((queueInOrder_iff s).mp h))

end Sys2Proof.Machine
end

section
/-! SUPPORT. The control slots: the arbiter's choice and its report (04 R53, R66, R67), and the disposal of a word of an
RxControl slot (04 R54 to R58). -/

namespace Sys2Proof.Machine

-- One theorem after another, as in the tests: many at once ask for more threads than there are.
set_option Elab.async false

/-! ### The arbiter (04 R66) -/

section
variable {s : State} {n : Slot} (hlive : s.resetPin = false) (hquiet : s.quiet = true)
  (hready : s.slotReady n = true) (huse : s.entryOf n = .txControl)
include hlive hquiet hready huse

/-- The offer of a ready TxControl slot drives the word that the arbiter answers. -/
theorem exec_txcontrolOffer_word {payload : Word} {t : State} (h : s.arbitrate = (some payload, t)) :
    exec (.txcontrolOffer n) s = finish (t.drive n (slotWord .control payload) .control) := by
  refine (whenLive_live _ hlive).trans ?_
  rw [State.takeDue_of_quiet hquiet, hready, huse]
  dsimp only
  rw [h]

theorem exec_txcontrolOffer_nothing {t : State} (h : s.arbitrate = (none, t)) :
    exec (.txcontrolOffer n) s = finish (t.enterSlot n) := by
  refine (whenLive_live _ hlive).trans ?_
  rw [State.takeDue_of_quiet hquiet, hready, huse]
  dsimp only
  rw [h]

end

/-- The position `d` places behind the one after the last chosen, on from 31 to 0. -/
theorem val_add_one_add (last : Fin 32) {d : Nat} (hd : d < 32) :
    (last + 1 + ⟨d, hd⟩).val = (last.val + 1 + d) % 32 := by
  rw [Fin.val_add, Fin.val_add]
  exact Nat.mod_add_mod _ _ _

/-- The mark chosen is the first set one in the order of the search. -/
theorem State.nextMark_eq_some {s : State} {p : Fin 32} {d : Nat} (hd : d < 32)
    (hp : p.val = (s.lnk.lastPosition.val + 1 + d) % 32) (hset : (s.markAt p).set = true)
    (hfirst : ∀ (q : Fin 32) (j : Nat), j < d → q.val = (s.lnk.lastPosition.val + 1 + j) % 32 →
      (s.markAt q).set = false) : s.nextMark = some p := by
  refine List.find?_eq_some_iff_getElem.mpr ⟨hset, d, by simpa using hd, ?_, fun j hj => ?_⟩
  · simpa using Fin.ext ((val_add_one_add _ hd).trans hp.symm)
  · have hj32 : j < 32 := hj.trans hd
    simpa using hfirst _ j hj (val_add_one_add s.lnk.lastPosition hj32)

theorem State.nextMark_eq_none {s : State} (h : ∀ p : Fin 32, (s.markAt p).set = false) : s.nextMark = none := by
  refine List.find?_eq_none.mpr fun p _ => ?_
  simp [h p]

section
variable {s : State}

theorem State.arbitrate_entry {e : CtlEntry} {rest : List CtlEntry} (h : s.lnk.queue = e :: rest) :
    s.arbitrate =
      (some e.payload, { s with lnk := { s.lnk with queue := { e with chosen := true } :: rest } }) := by
  simp only [State.arbitrate, h]

theorem State.arbitrate_mark {p : Fin 32} (h : s.lnk.queue = []) (hp : s.nextMark = some p) :
    s.arbitrate = (some (s.levelPayload p),
      { s with lnk := { s.lnk with lastPosition := p } }.modMark p (fun m => { m with chosen := true })) := by
  simp only [State.arbitrate, h, hp]

theorem State.arbitrate_none (h : s.lnk.queue = []) (hnone : s.nextMark = none) : s.arbitrate = (none, s) := by
  simp only [State.arbitrate, h, hnone]

end

/-! ### The report of a control word (04 R67) -/

theorem exec_txcontrolReport {s : State} {bits line : SlotBits} (hlive : s.resetPin = false)
    (hline : s.hwi.line = some ⟨bits, .control⟩) :
    exec (.txcontrolReport line) s = finish ((s.endLine (clashed bits line)).settleControl (clashed bits line)) := by
  refine (whenLive_live _ hlive).trans ?_
  rw [hline]

/-- The report of a control word on a channel: the mark chosen is cleared after a clean slot and stays after a clash. -/
theorem State.chan_controlReport (s : State) (clash : Bool) (c : Chan) :
    ((s.endLine clash).settleControl clash).chan c = { s.chan c with
      wordMark := (s.chan c).wordMark.settle clash, msgMark := (s.chan c).msgMark.settle clash } := by
  rw [State.endLine_eq, State.settleControl, State.chan_mapChans]
  rfl

/-- Settles O57: the offer by what stands in the queue and among the marks, and the report by its outcome. -/
theorem controlSlotArbitration : Obligations.ControlSlotArbitration := by
  unfold Obligations.ControlSlotArbitration
  refine ⟨fun s n hlive hquiet hready huse => ?_, fun s bits line clash hlive hline hclash => ?_⟩
  · refine ⟨fun e rest hq => ?_, fun p d c hq hc hd hp hset hfirst => ?_, fun hq hclear => ?_, fun p => rfl⟩
    · exact exec_txcontrolOffer_word hlive hquiet hready huse (State.arbitrate_entry hq)
    · obtain rfl : c = Fin.ofNat 16 (p.val / 2) := Fin.ext (by rw [hc, Fin.val_ofNat]; omega)
      have hmark := State.arbitrate_mark hq (State.nextMark_eq_some hd hp hset hfirst)
      refine ⟨_, exec_txcontrolOffer_word hlive hquiet hready huse hmark, ?_, ?_⟩
      · rw [State.chan_drive, State.modMark, State.chan_modChan_same]
        rfl
      · rw [State.chan_drive, State.modMark, State.chan_modChan_same]
        rfl
    · have hnone := State.arbitrate_none hq (State.nextMark_eq_none hclear)
      exact exec_txcontrolOffer_nothing hlive hquiet hready huse hnone
  · rw [exec_txcontrolReport hlive hline, clashed_eq hclash]
    refine ⟨_, rfl, ?_, fun c => ?_⟩
    · rw [State.endLine_eq]
      cases clash <;> rfl
    · rw [State.chan_evaluate, State.chan_controlReport]
      rfl

/-! ### The word of an RxControl slot (04 R54 to R58) -/

/-- A word of a ready RxControl slot is screened and handed to the Link Controller. -/
theorem exec_rxcontrolWord {s : State} {n : Slot} {p : Address} (line : SlotBits) (hlive : s.resetPin = false)
    (hquiet : s.quiet = true) (hready : s.slotReady n = true) (huse : s.entryOf n = .rxControl p) :
    exec (.rxcontrolWord n line) s =
      finish (((s.enterSlot n).screen (receive line)).receiveControl p (receive line)) := by
  refine (whenLive_live _ hlive).trans ?_
  rw [State.takeDue_of_quiet hquiet, hready, huse]

/-- A word of another kind than Control and Idle advances KindMismatches: a Header at the screen, the others at the Link
Controller. -/
theorem State.receive_other_kind (s : State) (p : Address) {k : Kind} (w : Word) (hidle : k ≠ .idle)
    (hcontrol : k ≠ .control) :
    (s.screen (.word k w)).receiveControl p (.word k w) = s.countHw .kindMismatches := by
  cases k
  case idle => exact absurd rfl hidle
  case control => exact absurd rfl hcontrol
  all_goals rfl

/-- The channel that a 4-bit field names. -/
theorem chanOfField_eq {c : Chan} {cf : Address} (h : c.val = cf.toNat) : chanOfField cf = c := Fin.ext h.symm

theorem Opcode.isLevel_iff (op : Opcode) : op.isLevel = true ↔ op = .wordLevel ∨ op = .msgLevel := by
  cases op <;> simp [Opcode.isLevel]

theorem Opcode.drawsReset_iff (op : Opcode) :
    op.drawsReset = true ↔ op = .open_ ∨ op = .openAck ∨ op = .close := by
  cases op <;> simp [Opcode.drawsReset]

/-- The three tests of R56. -/
theorem Channel.matchesWord_iff (ch : Channel) (p : Address) (op : Opcode) (v : BitVec 5) :
    ch.matchesWord p op v = true ↔ ch.config.mode = .credit ∧ ch.config.peerStation = p ∧
      (op = .wordLevel ∨ op = .msgLevel ∨ v.toNat = ch.config.peerChannel.toNat) := by
  have hvalue : v = ch.config.peerChannel.setWidth 5 ↔ v.toNat = ch.config.peerChannel.toNat := by
    rw [← BitVec.toNat_inj, BitVec.toNat_setWidth_of_le (by decide)]
  simp only [Channel.matchesWord, Bool.and_eq_true, Bool.or_eq_true, beq_iff_eq, Opcode.isLevel_iff, hvalue, and_assoc,
    or_assoc]

section
variable (s : State) (p : Address) {st cf : Address} {op : Opcode} {v : BitVec 5}

/-- A control word for another station is ignored (04 R55). -/
theorem State.takeControl_elsewhere (hst : st ≠ s.hwi.station) : s.takeControl p (controlPayload st cf op v) = s := by
  rw [State.takeControl, ctlStation_controlPayload, if_pos hst]

/-- A handshake word with a value of 16 or more is malformed (04 R55). -/
theorem State.takeControl_malformed (hst : st = s.hwi.station) (hop : op.isLevel = false) (hv : 16 ≤ v.toNat) :
    s.takeControl p (controlPayload st cf op v) = s.countHw .malformedControl := by
  rw [State.takeControl, ctlStation_controlPayload, ctlOpcode_controlPayload, ctlValue_controlPayload,
    if_neg (not_not.mpr hst), if_pos (by simp [hop, hv])]

/-- A control word for this station with a good form is matched against its channel (04 R56). -/
theorem State.takeControl_formed {c : Chan} (hst : st = s.hwi.station) (hform : op.isLevel = true ∨ v.toNat < 16)
    (hc : c.val = cf.toNat) :
    s.takeControl p (controlPayload st cf op v) =
      if (s.chan c).matchesWord p op v then s.matchedWord c op v else s.unmatchedWord c p op v := by
  have hformed : ¬ (!op.isLevel && decide (16 ≤ v.toNat)) = true := by
    rcases hform with hlevel | hsmall
    · simp [hlevel]
    · simp [hsmall]
  rw [State.takeControl, ctlStation_controlPayload, ctlOpcode_controlPayload, ctlValue_controlPayload,
    ctlChannel_controlPayload, chanOfField_eq hc, if_neg (not_not.mpr hst), if_neg hformed]

end

/-- A reply to an unmatched word is queued where no response of the channel stands (04 R61). -/
theorem State.queueResponse_unmatched (s : State) (c : Chan) (op : Opcode) (station channel : Address) :
    s.queueResponse c op station channel false = { s with lnk := { s.lnk with
      queue := if ∀ e ∈ s.lnk.queue, e.isFor c .response = false then
          s.lnk.queue ++ [⟨c, .response, op, station, channel, false⟩]
        else s.lnk.queue } } := by
  by_cases hnone : ∀ e ∈ s.lnk.queue, e.isFor c .response = false
  · have habsent : ∀ e ∈ s.lnk.queue, e.key ≠ (c, .response) := fun e he hkey =>
      absurd ((e.isFor_iff _ _).mpr hkey) (by rw [hnone e he]; decide)
    rw [State.queueResponse, if_neg (by simpa using hnone), if_pos hnone, State.enqueueEntry,
      enqueue_of_absent habsent]
  · rw [State.queueResponse, if_pos (by simpa using hnone), if_neg hnone]

/-- An unmatched word is counted, and an Open, OpenAck or Close is answered Reset where no response of the channel
stands (04 R58). -/
theorem State.unmatchedWord_eq (s : State) (c : Chan) (p : Address) (op : Opcode) (v : BitVec 5) :
    s.unmatchedWord c p op v = { s with
      hwi := { s.hwi with counters := s.hwi.counters.set 8 (advance s.hwi.counters[8]) }
      lnk := { s.lnk with
        queue := if (op = .open_ ∨ op = .openAck ∨ op = .close) ∧
            (∀ e ∈ s.lnk.queue, e.isFor c .response = false) then
            s.lnk.queue ++ [⟨c, .response, .reset, p, v.setWidth 4, false⟩]
          else s.lnk.queue } } := by
  unfold State.unmatchedWord
  dsimp only
  by_cases hdraws : op.drawsReset = true
  · simp only [(Opcode.drawsReset_iff op).mp hdraws, true_and]
    rw [if_pos hdraws, State.queueResponse_unmatched]
    rfl
  · rw [if_neg hdraws, if_neg fun h => hdraws ((Opcode.drawsReset_iff op).mpr h.1)]
    rfl

/-- Settles O59: a word of an RxControl slot by check, kind, destination, form and match. -/
theorem rxControlWordIsDisposed : Obligations.RxControlWordIsDisposed := by
  unfold Obligations.RxControlWordIsDisposed
  intro s u n p line hlive hquiet hready huse hu
  obtain rfl : u = s.enterSlot n := hu
  rw [exec_rxcontrolWord line hlive hquiet hready huse]
  refine ⟨fun hline => ?_, fun w hline => ?_, fun k w hline hidle hcontrol => ?_, ?_⟩
  · rw [hline]
    rfl
  · rw [hline]
    rfl
  · rw [hline, State.receive_other_kind _ p w hidle hcontrol]
    rfl
  rintro st cf op v c ch hline hc rfl
  have htaken : ((s.enterSlot n).screen (receive line)).receiveControl p (receive line) =
      (s.enterSlot n).takeControl p (controlPayload st cf op v) := by
    rw [hline]
    rfl
  rw [htaken]
  refine ⟨fun hst => ?_, fun hst hword hmsg hv => ?_, fun hst hform => ?_⟩
  · rw [State.takeControl_elsewhere (s.enterSlot n) p hst]
    rfl
  · have hop : op.isLevel = false := by
      rw [← Bool.not_eq_true, Opcode.isLevel_iff]
      exact not_or.mpr ⟨hword, hmsg⟩
    rw [State.takeControl_malformed (s.enterSlot n) p hst hop hv]
    rfl
  · have hform' : op.isLevel = true ∨ v.toNat < 16 := hform.symm.imp_left op.isLevel_iff.mpr
    rw [State.takeControl_formed (s.enterSlot n) p hst hform' hc, State.chan_enterSlot]
    refine ⟨fun hmatch => ?_, fun hmatch => ?_⟩
    · rw [if_pos ((Channel.matchesWord_iff _ p op v).mpr hmatch)]
      rfl
    · rw [if_neg fun h => hmatch ((Channel.matchesWord_iff _ p op v).mp h), State.unmatchedWord_eq]
      rfl

end Sys2Proof.Machine
end

section
/-! SUPPORT. What the transitions of the Link Controller do to a channel's link state, cause and configuration, and to
the responses in the Control Output Queue (03 R47, R48, 04 R61, 05 section 5.2). -/

namespace Sys2Proof.Machine

-- One theorem after another, as in the tests: many at once ask for more threads than there are.
set_option Elab.async false

/-! ### Link state, cause and configuration of a channel -/

/-- What Table 24 gives of a channel, with the configuration, which no transition changes. -/
def Channel.linkView (ch : Channel) : LinkState × Cause × ChanConfig := (ch.link.state, ch.link.cause, ch.config)

section
variable (ch : Channel)

@[simp] theorem Channel.stopTimers_linkView : ch.stopTimers.linkView = ch.linkView := rfl
@[simp] theorem Channel.setMarks_linkView : ch.setMarks.linkView = ch.linkView := rfl
@[simp] theorem Channel.clearMarks_linkView : ch.clearMarks.linkView = ch.linkView := rfl
@[simp] theorem Channel.zeroCredits_linkView : ch.zeroCredits.linkView = ch.linkView := rfl
@[simp] theorem Channel.newEpoch_linkView : ch.newEpoch.linkView = ch.linkView := rfl
@[simp] theorem Channel.setDiscard_linkView (d : Bool) : (ch.setDiscard d).linkView = ch.linkView := rfl

@[simp] theorem Channel.emptyTx_linkView : ch.emptyTx.linkView = ch.linkView := by
  unfold Channel.emptyTx
  dsimp only
  split <;> rfl

@[simp] theorem Channel.grant_linkView : ch.grant.linkView = ch.linkView := by
  rw [Channel.grant_shape]
  rfl

@[simp] theorem Channel.rxAbort_linkView : ch.rxAbort.linkView = ch.linkView := by
  unfold Channel.rxAbort
  cases hopen : ch.rx.openRecord with
  | none => rw [Channel.closeOpen_none _ _ _ hopen]
  | some r =>
    rw [Channel.closeOpen_some _ _ _ hopen]
    rfl

@[simp] theorem Channel.clearDown_linkView : ch.clearDown.linkView = ch.linkView := by
  unfold Channel.clearDown
  dsimp only
  split <;> simp

@[simp] theorem Channel.endStarvation_linkView (after : Channel) :
    (ch.endStarvation after).linkView = after.linkView := by
  unfold Channel.endStarvation
  split <;> rfl

/-- A move changes the state alone (03 R47). -/
theorem Channel.moveTo_linkView (st : LinkState) : (ch.moveTo st).linkView = (st, ch.linkView.2) := by
  unfold Channel.moveTo
  split
  · rename_i hst
    subst hst
    rfl
  · rfl

/-- A move with a cause writes the state and the cause (03 R48). -/
theorem Channel.moveToWith_linkView (st : LinkState) (cause : Cause) :
    (ch.moveToWith st cause).linkView = (st, cause, ch.linkView.2.2) := by
  have hmoved := ch.moveTo_linkView st
  simp only [Channel.linkView, Prod.mk.injEq] at hmoved
  obtain ⟨hstate, -, hconfig⟩ := hmoved
  simp only [Channel.linkView, Channel.moveToWith, hstate, hconfig]

/-- A move to another state, field by field. -/
theorem Channel.moveTo_of_ne {st : LinkState} (h : ch.link.state ≠ st) :
    ch.moveTo st = { ch with
      link := { ch.link with state := st }, latches := ch.latches ||| BitVec.twoPow 4 0 } :=
  if_neg h

theorem Channel.moveToWith_of_ne {st : LinkState} (cause : Cause) (h : ch.link.state ≠ st) :
    ch.moveToWith st cause = { ch with
      link := { ch.link with state := st, cause := cause }, latches := ch.latches ||| BitVec.twoPow 4 0 } := by
  rw [Channel.moveToWith, ch.moveTo_of_ne h]

end

/-! ### Link state, cause and configuration after a transition -/

section
variable (s : State) (c : Chan)

@[simp] theorem State.flushTx_linkView (status : CqStatus) :
    ((s.flushTx c status).chan c).linkView = (s.chan c).linkView := by
  unfold State.flushTx
  dsimp only
  split <;> simp

theorem State.closeConnected_linkView (cause : Cause) :
    ((s.closeConnected c cause).chan c).linkView = (.closed, cause, (s.chan c).config) := by
  unfold State.closeConnected
  dsimp only
  rw [State.chan_withdraw, State.chan_modChan_same, Channel.moveToWith_linkView, Channel.clearDown_linkView,
    State.flushTx_linkView]
  rfl

theorem State.enterFault_linkView (cause : Cause) :
    ((s.enterFault c cause).chan c).linkView = (.fault, cause, (s.chan c).config) := by
  rw [State.enterFault, State.chan_withdraw, State.chan_modChan_same, Channel.moveToWith_linkView,
    Channel.stopTimers_linkView, State.flushTx_linkView]
  rfl

theorem State.enterOpen_linkView :
    ((s.enterOpen c).chan c).linkView = (.opened, (s.chan c).link.cause, (s.chan c).config) := by
  have hmoved : ((s.chan c).stopAnswer.moveTo .opened).linkView =
      (.opened, (s.chan c).link.cause, (s.chan c).config) := Channel.moveTo_linkView _ _
  unfold State.enterOpen
  rw [State.chan_modChan_same, State.chan_withdraw]
  dsimp only
  split
  · rw [Channel.grant_linkView, Channel.setMarks_linkView, Channel.newEpoch_linkView, hmoved]
  · exact hmoved

/-- The part before a peer restart queues its OpenAck: the channel flushed, its records aborted, its totals and marks
cleared (05 R82). -/
def State.restartCleared : State :=
  (s.flushTx c .peerReset).modChan c (fun ch => ch.rxAbort.zeroCredits.clearMarks)

theorem State.peerRestart_eq : s.peerRestart c =
    (((s.restartCleared c).replyPeer c .openAck).deferProbe c).modChan c
      (fun ch => { ch.grant with probe := some 0 }) := rfl

theorem State.restartCleared_linkView : ((s.restartCleared c).chan c).linkView = (s.chan c).linkView := by
  rw [State.restartCleared, State.chan_modChan_same, Channel.clearMarks_linkView, Channel.zeroCredits_linkView,
    Channel.rxAbort_linkView, State.flushTx_linkView]

theorem State.peerRestart_linkView : ((s.peerRestart c).chan c).linkView = (s.chan c).linkView := by
  rw [← State.restartCleared_linkView s c, ← Channel.grant_linkView ((s.restartCleared c).chan c),
    State.peerRestart_eq, State.chan_modChan_same, State.chan_deferProbe, State.chan_replyPeer]
  rfl

/-! ### Responses in the queue (04 R61) -/

/-- The response entries of the queue, in their order. -/
def State.responses (s : State) : List CtlEntry := s.lnk.queue.filter (fun e => decide (e.cls = .response))

/-- A reply to the peer of channel `c`. -/
def State.replyEntry (s : State) (c : Chan) (op : Opcode) : CtlEntry :=
  ⟨c, .response, op, (s.chan c).config.peerStation, (s.chan c).config.peerChannel, false⟩

/-- Queueing a response is queueing it among the responses. -/
theorem filter_enqueue_response {q : List CtlEntry} {e : CtlEntry} (he : e.cls = .response) :
    (enqueue q e).filter (fun x => decide (x.cls = .response)) =
      enqueue (q.filter (fun x => decide (x.cls = .response))) e := by
  have hany : (q.filter fun x => decide (x.cls = .response)).any (fun x => x.isFor e.chan e.cls) =
      q.any (fun x => x.isFor e.chan e.cls) := by
    rw [List.any_filter]
    refine congrArg q.any (funext fun x => ?_)
    simp [CtlEntry.isFor, he]
  have hcls : ∀ x : CtlEntry, (if x.isFor e.chan e.cls then x.takeOver e else x).cls = x.cls := fun x =>
    congrArg Prod.snd (x.key_replaced e)
  unfold enqueue
  rw [hany]
  split
  · rw [List.filter_map]
    simp [Function.comp_def, hcls]
  · simp [he]

theorem State.replyPeer_responses (op : Opcode) :
    (s.replyPeer c op).responses = enqueue s.responses (s.replyEntry c op) :=
  filter_enqueue_response rfl

/-- Only requests are withdrawn (04 R62). -/
@[simp] theorem State.withdraw_responses (p : Opcode → Bool) : (s.withdraw c p).responses = s.responses := by
  rw [State.responses, State.withdraw, List.filter_filter]
  refine List.filter_congr fun e _ => ?_
  cases hcls : e.cls <;> simp [CtlEntry.isFor, hcls]

/-- What leaves the Link Controller's part alone leaves the responses. -/
theorem State.responses_of_lnk {s t : State} (h : t.lnk = s.lnk) : t.responses = s.responses := by
  rw [State.responses, h]
  rfl

@[simp] theorem State.flushTx_lnk (status : CqStatus) : (s.flushTx c status).lnk = s.lnk := by
  unfold State.flushTx
  dsimp only
  split <;> rfl

@[simp] theorem State.closeConnected_responses (cause : Cause) : (s.closeConnected c cause).responses = s.responses :=
  (State.withdraw_responses _ c _).trans (State.responses_of_lnk (s.flushTx_lnk c _))

@[simp] theorem State.enterFault_responses (cause : Cause) : (s.enterFault c cause).responses = s.responses :=
  (State.withdraw_responses _ c _).trans (State.responses_of_lnk (s.flushTx_lnk c _))

@[simp] theorem State.enterOpen_responses : (s.enterOpen c).responses = s.responses :=
  (State.responses_of_lnk rfl).trans (s.withdraw_responses c fun _ => true)

theorem State.peerRestart_responses :
    (s.peerRestart c).responses = enqueue s.responses (s.replyEntry c .openAck) := by
  have hresponses : (s.restartCleared c).responses = s.responses := State.responses_of_lnk (s.flushTx_lnk c .peerReset)
  have hconfig : ((s.restartCleared c).chan c).config = (s.chan c).config :=
    congrArg (fun view => view.2.2) (s.restartCleared_linkView c)
  have hentry : (s.restartCleared c).replyEntry c .openAck = s.replyEntry c .openAck := by
    rw [State.replyEntry, hconfig]
    rfl
  rw [← hresponses, ← hentry, ← State.replyPeer_responses]
  exact deferProbe_responses c _

end

end Sys2Proof.Machine
end

section
/-! SUPPORT. Matched control words against Table 24: the transition that each orders, and the link state, cause and
reply that it leaves (04 R57, 05 R80 to R86). -/

namespace Sys2Proof.Machine

-- One theorem after another, as in the tests: many at once ask for more threads than there are.
set_option Elab.async false

section
variable (s : State) (c : Chan)

/-! ### Link state, cause and reply (05 Table 24) -/

/-- The responses after a reply, if there is one. -/
def State.responsesWith (reply : Option Opcode) : List CtlEntry :=
  match reply with
  | some op => enqueue s.responses (s.replyEntry c op)
  | none => s.responses

/-- From `s` to `t` channel `c` goes to state `st` with cause `cause`, if one is written, and draws `reply`, if any. -/
structure LinkOutcome (t : State) (st : LinkState) (cause : Option Cause) (reply : Option Opcode) : Prop where
  view : (t.chan c).linkView = (st, cause.getD (s.chan c).link.cause, (s.chan c).config)
  responses : t.responses = s.responsesWith c reply

/-- From `s` to `t` channel `c` did what Table 24 gives for a matched word, by the link state found. -/
def FollowsTable24 (t : State) (op : Opcode) (listEmpty : Bool) : Prop :=
  LinkOutcome s c t (linkAfter (s.chan c).link.state op listEmpty) (causeAfter (s.chan c).link.state op listEmpty)
    (replyTo (s.chan c).link.state op listEmpty)

namespace LinkOutcome

theorem stays {st : LinkState} (hst : (s.chan c).link.state = st) : LinkOutcome s c s st none none :=
  ⟨by rw [← hst]; rfl, rfl⟩

/-- A change of the channel that keeps its cause and configuration. -/
theorem modChan {st : LinkState} {f : Channel → Channel}
    (hf : (f (s.chan c)).linkView = (st, (s.chan c).link.cause, (s.chan c).config)) :
    LinkOutcome s c (s.modChan c f) st none none :=
  ⟨by rw [State.chan_modChan_same]; exact hf, rfl⟩

theorem replies (op : Opcode) {st : LinkState} (hst : (s.chan c).link.state = st) :
    LinkOutcome s c (s.replyPeer c op) st none (some op) :=
  ⟨by rw [State.chan_replyPeer, ← hst]; rfl, s.replyPeer_responses c op⟩

/-- A transition after a reply. -/
theorem replied {s c} {t : State} {op : Opcode} {st : LinkState} {cause : Option Cause}
    (h : LinkOutcome (s.replyPeer c op) c t st cause none) : LinkOutcome s c t st cause (some op) := by
  refine ⟨?_, h.responses.trans (s.replyPeer_responses c op)⟩
  rw [h.view, State.chan_replyPeer]

theorem closeConnected (cause : Cause) : LinkOutcome s c (s.closeConnected c cause) .closed (some cause) none :=
  ⟨s.closeConnected_linkView c cause, s.closeConnected_responses c cause⟩

theorem enterOpen : LinkOutcome s c (s.enterOpen c) .opened none none :=
  ⟨s.enterOpen_linkView c, s.enterOpen_responses c⟩

theorem enterFault (cause : Cause) : LinkOutcome s c (s.enterFault c cause) .fault (some cause) none :=
  ⟨s.enterFault_linkView c cause, s.enterFault_responses c cause⟩

theorem peerRestart {st : LinkState} (hst : (s.chan c).link.state = st) :
    LinkOutcome s c (s.peerRestart c) st none (some .openAck) :=
  ⟨by rw [State.peerRestart_linkView, ← hst]; rfl, s.peerRestart_responses c⟩

theorem matchedOpen (listEmpty : Bool) : FollowsTable24 s c (s.matchedOpen c) .open_ listEmpty := by
  unfold FollowsTable24 State.matchedOpen
  split <;> rename_i hst <;> rw [hst]
  case h_1 | h_2 => exact (enterOpen _ c).replied
  case h_3 => exact peerRestart s c hst
  case h_4 | h_5 | h_6 => exact (closeConnected _ c .peerReset).replied
  case h_7 | h_8 => exact replies s c .reset hst

theorem matchedOpenAck (listEmpty : Bool) : FollowsTable24 s c (s.matchedOpenAck c) .openAck listEmpty := by
  unfold FollowsTable24 State.matchedOpenAck
  split <;> rename_i hst <;> rw [hst]
  case h_1 => exact enterOpen s c
  case h_2 => exact replies s c .reset hst
  all_goals exact stays s c hst

theorem matchedClose : FollowsTable24 s c (s.matchedClose c) .close (s.chan c).tx.messages.isEmpty := by
  unfold FollowsTable24 State.matchedClose
  split <;> rename_i hst <;> rw [hst]
  case h_1 =>
    cases hempty : (s.chan c).tx.messages.isEmpty with
    | true => exact (closeConnected _ c .closed).replied
    | false => exact modChan s c (f := fun ch => ch.dropComposing.moveTo .yield) (Channel.moveTo_linkView _ _)
  case h_2 => exact modChan s c (Channel.moveTo_linkView _ _)
  case h_3 | h_4 => exact replies s c .closeAck hst
  case h_5 | h_6 | h_7 => exact replies s c .reset hst
  case h_8 => exact stays s c hst

theorem matchedCloseAck (listEmpty : Bool) : FollowsTable24 s c (s.matchedCloseAck c) .closeAck listEmpty := by
  unfold FollowsTable24 State.matchedCloseAck
  cases hst : (s.chan c).link.state
  case closeWait => exact closeConnected s c .closed
  all_goals exact stays s c hst

theorem matchedReset (listEmpty : Bool) : FollowsTable24 s c (s.matchedReset c) .reset listEmpty := by
  unfold FollowsTable24 State.matchedReset
  split <;> rename_i hst <;> rw [hst]
  case h_1 => exact enterFault s c .refused
  case h_2 | h_3 | h_4 | h_5 => exact closeConnected s c .peerReset
  all_goals exact stays s c hst

/-- A Probe or a level word moves nothing. -/
theorem whenConnected {f : Channel → Channel} (hf : (f (s.chan c)).linkView = (s.chan c).linkView) :
    LinkOutcome s c (s.whenConnected c f) (s.chan c).link.state none none := by
  unfold State.whenConnected
  split
  · exact modChan s c hf
  · exact stays s c rfl

theorem matchedWord (op : Opcode) (v : BitVec 5) :
    FollowsTable24 s c (s.matchedWord c op v) op (s.chan c).tx.messages.isEmpty := by
  cases op
  case open_ => exact matchedOpen s c _
  case openAck => exact matchedOpenAck s c _
  case close => exact matchedClose s c
  case closeAck => exact matchedCloseAck s c _
  case reset => exact matchedReset s c _
  case probe => exact whenConnected s c rfl
  case wordLevel => exact whenConnected s c (Channel.endStarvation_linkView _ _)
  case msgLevel => exact whenConnected s c (Channel.endStarvation_linkView _ _)

end LinkOutcome

/-! ### Probes and level words (05 R86, 06 R104, R107) -/

section
variable (v : BitVec 5) (h : (s.chan c).link.state.connected = true)
include h

theorem State.matchedWord_probe : s.matchedWord c .probe v = s.setChan c { s.chan c with
    wordMark := { set := true, chosen := false }, msgMark := { set := true, chosen := false } } := if_pos h

theorem State.matchedWord_wordLevel : s.matchedWord c .wordLevel v = s.setChan c ((s.chan c).hearWordLevel v) :=
  if_pos h

theorem State.matchedWord_msgLevel : s.matchedWord c .msgLevel v = s.setChan c ((s.chan c).hearMsgLevel v) :=
  if_pos h

end

theorem State.matchedWord_unconnected {op : Opcode} (v : BitVec 5)
    (hop : op = .probe ∨ op = .wordLevel ∨ op = .msgLevel) (h : (s.chan c).link.state.connected = false) :
    s.matchedWord c op v = s := by
  have hnot : ¬ (s.chan c).link.state.connected = true := by simp [h]
  rcases hop with rfl | rfl | rfl <;> exact if_neg hnot

end

section
variable (ch : Channel)

/-- The end of a starvation changes the probe timer alone. -/
theorem Channel.endStarvation_keeps (after : Channel) :
    (ch.endStarvation after).credits = after.credits ∧ (ch.endStarvation after).tx = after.tx ∧
      (ch.endStarvation after).rx = after.rx := by
  unfold Channel.endStarvation
  split <;> exact ⟨rfl, rfl, rfl⟩

theorem Channel.endStarvation_ended {after : Channel} (h : ch.starved = true) (hafter : ¬ after.starved = true) :
    ch.endStarvation after = after.resetProbe := if_pos (by simp [h, hafter])

theorem Channel.endStarvation_other {after : Channel} (h : ¬ ch.starved = true ∨ after.starved = true) :
    ch.endStarvation after = after := by
  refine if_neg ?_
  rcases h with h | h <;> simp [h]

/-- A channel with new totals is starved by what they are (06 R107). -/
theorem Channel.starved_with_iff (k : Credits) : ({ ch with credits := k } : Channel).starved = true ↔
    ∃ m rest, ch.tx.messages = m :: rest ∧ m.sent < m.length ∧
      (k.wordHeard = k.wordUsed ∨ (m.sent = 0 ∧ k.msgHeard = k.msgUsed)) :=
  Channel.starved_iff _

end

section
variable (s : State) (c : Chan)

/-! ### The transitions that matched words order (05 R80 to R85) -/

theorem State.matchedOpen_enters (h : (s.chan c).link.state = .listen ∨ (s.chan c).link.state = .opening) :
    s.matchedOpen c = (s.replyPeer c .openAck).enterOpen c := by
  rcases h with h | h <;> simp only [State.matchedOpen, h]

theorem State.matchedOpen_refused (h : (s.chan c).link.state = .closed ∨ (s.chan c).link.state = .fault) :
    s.matchedOpen c = s.replyPeer c .reset := by
  rcases h with h | h <;> simp only [State.matchedOpen, h]

theorem State.matchedOpen_closes (h : (s.chan c).link.state = .drain ∨ (s.chan c).link.state = .closeWait ∨
    (s.chan c).link.state = .yield) : s.matchedOpen c = (s.replyPeer c .reset).closeConnected c .peerReset := by
  rcases h with h | h | h <;> simp only [State.matchedOpen, h]

theorem State.matchedOpenAck_ignored (hopening : (s.chan c).link.state ≠ .opening)
    (hclosed : (s.chan c).link.state ≠ .closed) : s.matchedOpenAck c = s := by
  unfold State.matchedOpenAck
  split
  case h_1 hst => exact absurd hst hopening
  case h_2 hst => exact absurd hst hclosed
  all_goals rfl

theorem State.matchedClose_acknowledged (h : (s.chan c).link.state = .closeWait ∨ (s.chan c).link.state = .closed) :
    s.matchedClose c = s.replyPeer c .closeAck := by
  rcases h with h | h <;> simp only [State.matchedClose, h]

theorem State.matchedClose_refused (h : (s.chan c).link.state = .listen ∨ (s.chan c).link.state = .opening ∨
    (s.chan c).link.state = .fault) : s.matchedClose c = s.replyPeer c .reset := by
  rcases h with h | h | h <;> simp only [State.matchedClose, h]

theorem State.matchedClose_opened (h : (s.chan c).link.state = .opened) : s.matchedClose c =
    if (s.chan c).tx.messages.isEmpty then (s.replyPeer c .closeAck).closeConnected c .closed
    else s.modChan c (fun ch => ch.dropComposing.moveTo .yield) := by
  simp only [State.matchedClose, h]

/-- A Close in OPEN with messages listed moves the channel to YIELD without its composing message (05 R83). -/
theorem State.matchedClose_yields (h : (s.chan c).link.state = .opened) (hlist : (s.chan c).tx.messages ≠ []) :
    s.matchedClose c = s.setChan c { s.chan c with
      link := { (s.chan c).link with state := .yield }
      tx := { (s.chan c).tx with composing := 0, spoiled := false }
      latches := (s.chan c).latches ||| BitVec.twoPow 4 0 } := by
  have hne : (s.chan c).dropComposing.link.state ≠ .yield := by
    rw [show (s.chan c).dropComposing.link.state = (s.chan c).link.state from rfl, h]
    decide
  rw [State.matchedClose_opened s c h, if_neg (by simpa using hlist)]
  exact congrArg (s.setChan c) (Channel.moveTo_of_ne _ hne)

theorem State.matchedClose_drain (h : (s.chan c).link.state = .drain) :
    s.matchedClose c = s.setChan c { s.chan c with
      link := { (s.chan c).link with state := .yield }, latches := (s.chan c).latches ||| BitVec.twoPow 4 0 } := by
  have hne : (s.chan c).link.state ≠ .yield := by rw [h]; decide
  simp only [State.matchedClose, h]
  exact congrArg (s.setChan c) (Channel.moveTo_of_ne _ hne)

theorem State.matchedReset_closes (h : (s.chan c).link.state.connected = true) :
    s.matchedReset c = s.closeConnected c .peerReset := by
  unfold State.matchedReset
  split
  case h_1 hst | h_6 hst | h_7 hst | h_8 hst =>
    rw [hst] at h
    cases h
  all_goals rfl

theorem State.matchedReset_ignored (h : (s.chan c).link.state = .closed ∨ (s.chan c).link.state = .listen ∨
    (s.chan c).link.state = .fault) : s.matchedReset c = s := by
  rcases h with h | h | h <;> simp only [State.matchedReset, h]

/-! ### A refused open (05 R85) -/

/-- The TX flush of a credit channel, field by field (05 R71). -/
theorem Channel.emptyTx_credit {ch : Channel} (h : ch.config.mode = .credit) :
    ch.emptyTx = { ch with
      tx := { ch.tx with free := if ch.tx.held = 0 then ch.tx.free else 0, messages := [], composing := 0,
                         spoiled := false, onLine := false }
      probe := ch.probe.map (fun _ => 0) } := by
  simp only [Channel.emptyTx, h]
  rfl

theorem State.modChan_modChan (f g : Channel → Channel) :
    (s.modChan c f).modChan c g = s.modChan c (fun ch => g (f ch)) := by
  simp [State.modChan, State.setChan, State.chan]

theorem State.withdraw_modChan (f : Channel → Channel) (p : Opcode → Bool) :
    (s.modChan c f).withdraw c p = (s.withdraw c p).modChan c f := rfl

/-- The failed open of a credit channel, field by field. -/
theorem State.enterFault_credit (cause : Cause) (hmode : (s.chan c).config.mode = .credit)
    (hst : (s.chan c).link.state ≠ .fault) : s.enterFault c cause = ({ s with
      cq := { s.cq with
        entries := s.cq.entries ++ (s.chan c).tx.messages.map (fun m => m.entry c .flushed s.hwi.frame) }
      lnk := { s.lnk with
        queue := s.lnk.queue.filter (fun e => !(e.isFor c .request && e.opcode == .open_)) } } : State).setChan c
      { s.chan c with
        link := { (s.chan c).link with state := .fault, cause := cause, answerTimer := none }
        probe := none
        tx := { (s.chan c).tx with free := if (s.chan c).tx.held = 0 then (s.chan c).tx.free else 0, messages := [],
                                   composing := 0, spoiled := false, onLine := false }
        latches := (s.chan c).latches ||| BitVec.twoPow 4 0 } := by
  have hflush : s.flushTx c .flushed = (s.addCompletions
      ((s.chan c).tx.messages.map fun m => m.entry c .flushed s.hwi.frame)).modChan c Channel.emptyTx := by
    simp only [State.flushTx, hmode]
  rw [State.enterFault, hflush, State.modChan_modChan, State.withdraw_modChan]
  refine congrArg (State.setChan ((s.addCompletions _).withdraw c _) c) ?_
  rw [State.chan_withdraw, State.chan_addCompletions]
  dsimp only
  rw [Channel.emptyTx_credit hmode]
  exact Channel.moveToWith_of_ne _ cause hst

end

/-! ### The statement -/

/-- Settles O60: by opcode and link state found, what Table 24 gives and the transition that the word orders. -/
theorem matchedWordsFollowTable24 : Obligations.MatchedWordsFollowTable24 := by
  unfold Obligations.MatchedWordsFollowTable24
  refine ⟨?_, ?_⟩
  · rintro s c op v ch ch' rfl rfl -
    obtain ⟨hview, hresponses⟩ := LinkOutcome.matchedWord s c op v
    simp only [Channel.linkView, Prod.mk.injEq] at hview
    obtain ⟨hstate, hcause, hconfig⟩ := hview
    have htouch := TouchesOnly.matchedWord c s op v
    have hsteady := (Steady.matchedWord s c op v).chan c
    refine ⟨hstate, hcause, hconfig, s.matchedWord_counters c c op v, hsteady.txRegion, hsteady.rxRegion,
      fun r hr => ?_, fun hr => ?_, ?_, ?_, ?_, fun hop hidle => ?_, htouch.chan, htouch.hwi, htouch.map, htouch.memory,
      htouch.host⟩
    · rw [hr] at hresponses
      exact hresponses
    · rw [hr] at hresponses
      exact hresponses
    · rintro rfl hconnected
      rw [State.matchedWord_probe s c v hconnected, State.chan_setChan_same]
    · rintro rfl hconnected
      rw [State.matchedWord_wordLevel s c v hconnected, State.chan_setChan_same]
      exact Channel.endStarvation_keeps _ _
    · rintro rfl hconnected
      rw [State.matchedWord_msgLevel s c v hconnected, State.chan_setChan_same]
      exact Channel.endStarvation_keeps _ _
    · rw [State.matchedWord_unconnected s c v hop hidle]
  · rintro s c v ch reply rfl hmode hreply
    obtain rfl : reply = s.replyPeer c := funext hreply
    refine ⟨?_, s.matchedOpen_enters c, fun h => ?_, s.matchedOpen_closes c, s.matchedOpen_refused c, fun h => ?_,
      fun h => ?_, s.matchedOpenAck_ignored c, fun h hempty => ?_, s.matchedClose_yields c, s.matchedClose_drain c,
      s.matchedClose_acknowledged c, s.matchedClose_refused c, fun h => ?_, fun h => if_pos h, fun h => if_neg h,
      s.matchedReset_closes c, s.matchedReset_ignored c, ?_⟩
    · intro starved word msg hstarved hword hmsg
      have hiff : ∀ k, starved k ↔ ({ s.chan c with credits := k } : Channel).starved = true := fun k =>
        (hstarved k).trans (Channel.starved_with_iff _ k).symm
      subst hword hmsg
      refine ⟨fun hconnected => ⟨s.matchedWord_probe c v hconnected, ?_⟩, fun hidle => ?_⟩
      · rw [State.matchedWord_wordLevel s c v hconnected, State.matchedWord_msgLevel s c v hconnected]
        simp only [hiff]
        exact ⟨fun h hafter => congrArg (s.setChan c) (Channel.endStarvation_ended _ h hafter),
          fun h => congrArg (s.setChan c) (Channel.endStarvation_other _ h),
          fun h hafter => congrArg (s.setChan c) (Channel.endStarvation_ended _ h hafter),
          fun h => congrArg (s.setChan c) (Channel.endStarvation_other _ h)⟩
      · exact ⟨s.matchedWord_unconnected c v (.inl rfl) hidle, s.matchedWord_unconnected c v (.inr (.inl rfl)) hidle,
          s.matchedWord_unconnected c v (.inr (.inr rfl)) hidle⟩
    · simp only [State.matchedWord, State.matchedOpen, h]
    · simp only [State.matchedWord, State.matchedOpenAck, h]
    · simp only [State.matchedWord, State.matchedOpenAck, h]
    · exact (s.matchedClose_opened c h).trans (if_pos (by simp [hempty]))
    · simp only [State.matchedWord, State.matchedClose, h]
    · rintro h tx es rfl rfl
      rw [State.matchedWord, State.matchedReset, h]
      exact s.enterFault_credit c .refused hmode (by rw [h]; decide)

end Sys2Proof.Machine
end

section
/-! SUPPORT. The TX flush and the transitions of the Link Controller, each as what it does to the queues and to its
channel (05 R71 to R74, R77, R78, R82, R85, R93). -/

namespace Sys2Proof.Machine

-- One theorem after another, as in the tests: many at once ask for more threads than there are.
set_option Elab.async false

/-! ### The channel after a transition -/

/-- The channel after its entry into OPEN (05 R74). -/
def Channel.afterEntry (ch : Channel) : Channel :=
  match ch.config.mode with
  | .credit => (ch.stopAnswer.moveTo .opened).newEpoch.setMarks.grant
  | .stream => ch.stopAnswer.moveTo .opened

/-- The channel after a move from a connected state to CLOSED with its clear-down (05 R73). -/
def Channel.afterClearDown (ch : Channel) (cause : Cause) : Channel := ch.emptyTx.clearDown.moveToWith .closed cause

/-- The channel after a move from LISTEN or OPENING to CLOSED or FAULT (05 R77, R78, R85, R93). -/
def Channel.afterGivingUp (ch : Channel) (st : LinkState) (cause : Cause) : Channel :=
  ch.emptyTx.stopTimers.moveToWith st cause

/-- The channel after a peer restart (05 R82). -/
def Channel.afterRestart (ch : Channel) : Channel :=
  { ch.emptyTx.rxAbort.zeroCredits.clearMarks.grant with probe := some 0 }

/-- The entries that a TX flush makes: one for each listed message of a credit channel, oldest first (05 R71). -/
def Channel.flushEntries (ch : Channel) (c : Chan) (status : CqStatus) (frame : Word) : List CqEntry :=
  if ch.config.mode = .credit then ch.tx.messages.map (fun m => m.entry c status frame) else []

/-- The status of the entries that a clear-down makes (05 R73 step 1). -/
def Cause.flushStatus (cause : Cause) : CqStatus := if cause = .peerReset then .peerReset else .flushed

/-! ### The transitions of the part -/

section
variable (s : State) (c : Chan)

/-- A TX flush makes its entries and empties the sending side (05 R71). -/
theorem State.flushTx_eq (status : CqStatus) : s.flushTx c status =
    (s.addCompletions ((s.chan c).flushEntries c status s.hwi.frame)).modChan c Channel.emptyTx := by
  cases hmode : (s.chan c).config.mode
  · simp only [State.flushTx, Channel.flushEntries, hmode, if_true]
  · simp [State.flushTx, Channel.flushEntries, hmode, State.addCompletions]

theorem State.enterOpen_eq : s.enterOpen c = (s.withdraw c fun _ => true).modChan c Channel.afterEntry := by
  have hmode : ((s.chan c).stopAnswer.moveTo .opened).config.mode = (s.chan c).config.mode :=
    congrArg (fun view => view.2.2.mode) ((s.chan c).stopAnswer.moveTo_linkView .opened)
  refine congrArg (State.setChan (s.withdraw c fun _ => true) c) ?_
  dsimp only
  rw [State.chan_withdraw, hmode]
  rfl

theorem State.closeConnected_eq (cause : Cause) : s.closeConnected c cause =
    ((s.addCompletions ((s.chan c).flushEntries c cause.flushStatus s.hwi.frame)).withdraw c
      fun op => op == .probe || op == .close).modChan c (fun ch => ch.afterClearDown cause) := by
  unfold State.closeConnected
  dsimp only
  rw [State.flushTx_eq, State.modChan_modChan]
  rfl

theorem State.closeUnconnected_eq (cause : Cause) : s.closeUnconnected c cause =
    (s.addCompletions ((s.chan c).flushEntries c .flushed s.hwi.frame)).modChan c
      (fun ch => ch.afterGivingUp .closed cause) := by
  unfold State.closeUnconnected
  rw [State.flushTx_eq, State.modChan_modChan]
  rfl

theorem State.closeUnopened_eq : s.closeUnopened c =
    ((s.addCompletions ((s.chan c).flushEntries c .flushed s.hwi.frame)).withdraw c fun op => op == .open_).modChan c
      (fun ch => ch.afterGivingUp .closed .closed) := by
  unfold State.closeUnopened
  rw [State.closeUnconnected_eq, State.withdraw_modChan]

theorem State.enterFault_eq (cause : Cause) : s.enterFault c cause =
    ((s.addCompletions ((s.chan c).flushEntries c .flushed s.hwi.frame)).withdraw c fun op => op == .open_).modChan c
      (fun ch => ch.afterGivingUp .fault cause) := by
  unfold State.enterFault
  rw [State.flushTx_eq, State.modChan_modChan, State.withdraw_modChan]
  rfl

/-- The reply goes to the peer, whose address the flush and the clearing keep. -/
theorem State.peerRestart_eq_modChan : s.peerRestart c =
    (((s.addCompletions ((s.chan c).flushEntries c .peerReset s.hwi.frame)).replyPeer c .openAck).deferProbe
      c).modChan c Channel.afterRestart := by
  have hconfig : ((s.restartCleared c).chan c).config = (s.chan c).config :=
    congrArg (fun view => view.2.2) (s.restartCleared_linkView c)
  rw [State.peerRestart_eq]
  unfold State.replyPeer
  rw [hconfig, State.restartCleared, State.flushTx_eq, State.modChan_modChan]
  exact State.modChan_modChan
    (((s.addCompletions ((s.chan c).flushEntries c .peerReset s.hwi.frame)).replyPeer c .openAck).deferProbe c) c
    (fun ch => ch.emptyTx.rxAbort.zeroCredits.clearMarks) (fun ch => { ch.grant with probe := some 0 })

end

end Sys2Proof.Machine
end

section
/-! SUPPORT. What can happen to a channel: one constructor for each thing that a command can do to it, with the
conditions under which it does it. An invariant of every channel follows from its being kept by each of these. -/

namespace Sys2Proof.Machine

-- One theorem after another, as in the tests: many at once ask for more threads than there are.
set_option Elab.async false

/-- What a command other than a reset can do to one channel, each with what is known of the channel before. -/
inductive Channel.Step : Channel → Channel → Prop
  -- The link (05)
  | listen (a : Channel) (state : a.link.state = .closed) (mode : a.config.mode = .credit)
      (records : a.rx.records = []) (composing : a.tx.composing = 0) : Step a (a.moveTo .listen)
  | startOpening (a : Channel) (l : LinkControl)
      (before : a.link.state = .listen ∨ (a.link.state = .closed ∧ a.config.mode = .credit ∧ a.rx.records = [] ∧
        a.tx.composing = 0)) : Step a ((a.loadAnswer l).moveTo .opening)
  | enterOpen (a : Channel)
      (before : (a.config.mode = .credit ∧ (a.link.state = .listen ∨ a.link.state = .opening)) ∨
        (a.config.mode = .stream ∧ a.link.state = .closed ∧ a.rx.records = [] ∧ a.tx.fifo = [])) :
      Step a a.afterEntry
  | drainCredit (a : Channel) (state : a.link.state = .opened) (mode : a.config.mode = .credit) :
      Step a (a.dropComposing.moveTo .drain)
  | drainStream (a : Channel) (state : a.link.state = .opened) (mode : a.config.mode = .stream) :
      Step a (Channel.moveTo (if a.tx.openMessage then { a with tx := a.tx.endOpenMessage } else a) .drain)
  | closeWait (a : Channel) (l : LinkControl) (state : a.link.state = .drain) (mode : a.config.mode = .credit) :
      Step a ((a.loadAnswer l).moveTo .closeWait)
  | yieldOpened (a : Channel) (state : a.link.state = .opened) (mode : a.config.mode = .credit)
      (listed : a.tx.messages ≠ []) : Step a (a.dropComposing.moveTo .yield)
  | yieldDrain (a : Channel) (state : a.link.state = .drain) (mode : a.config.mode = .credit) :
      Step a (a.moveTo .yield)
  | clearDown (a : Channel) (cause : Cause) (state : a.link.state.connected = true) : Step a (a.afterClearDown cause)
  | giveUp (a : Channel) (cause : Cause) (state : a.link.state = .listen ∨ a.link.state = .opening) :
      Step a (a.afterGivingUp .closed cause)
  | fail (a : Channel) (cause : Cause) (state : a.link.state = .opening) : Step a (a.afterGivingUp .fault cause)
  | restart (a : Channel) (state : a.link.state = .opened) (mode : a.config.mode = .credit) : Step a a.afterRestart
  | flush (a : Channel) (state : a.link.state = .closed ∨ a.link.state = .fault) : Step a a.flush
  -- The timers (05 section 5.6, 06 section 6.5)
  | retryAnswer (a : Channel) (n : Nat) (state : a.link.state = .opening ∨ a.link.state = .closeWait) :
      Step a { a with link := { a.link with answerTimer := some n, retriesLeft := a.link.retriesLeft - 1 } }
  | stopAnswer (a : Channel) (opening : a.link.state ≠ .opening) (closeWait : a.link.state ≠ .closeWait) :
      Step a a.stopAnswer
  | restartProbe (a : Channel) (running : a.probe.isSome = true) : Step a { a with probe := some 0 }
  | resetProbe (a : Channel) : Step a a.resetProbe
  | countFrame (a : Channel) : Step a a.countFrame
  -- Marks, latches, counters, the tag
  | marks (a : Channel) (w m : Mark) : Step a { a with wordMark := w, msgMark := m }
  | latches (a : Channel) (v : BitVec 4) : Step a { a with latches := v }
  | counters (a : Channel) (v : Vector (BitVec 8) 6) : Step a { a with counters := v }
  | tag (a : Channel) (w : Word) : Step a { a with tx := { a.tx with tag := w } }
  -- The sending side (06 R104, 07)
  | hearWordLevel (a : Channel) (v : BitVec 5) (state : a.link.state.connected = true)
      (mode : a.config.mode = .credit) : Step a (a.hearWordLevel v)
  | hearMsgLevel (a : Channel) (v : BitVec 5) (state : a.link.state.connected = true)
      (mode : a.config.mode = .credit) : Step a (a.hearMsgLevel v)
  | appendWord (a : Channel) (taken : a.writeTaken = true) : Step a a.appendWord
  | refuseWrite (a : Channel) (refused : a.writeTaken = false) : Step a a.refuseWrite
  | post (a : Channel) (mode : a.config.mode = .credit)
      (state : a.link.state = .listen ∨ a.link.state = .opening ∨ a.link.state = .opened)
      (composing : a.tx.composing ≠ 0) (spoiled : a.tx.spoiled = false)
      (room : a.tx.messages.length < Config.maxMessages) : Step a { a with tx := a.tx.postComposing }
  | endOpenMessage (a : Channel) (mode : a.config.mode = .stream) (sending : a.streamSending = true) :
      Step a { a with tx := a.tx.endOpenMessage }
  | abandonOpenMessage (a : Channel) (mode : a.config.mode = .stream) (sending : a.streamSending = true) :
      Step a { a with tx := a.tx.abandonOpenMessage }
  | dropComposing (a : Channel) (mode : a.config.mode = .credit) : Step a a.dropComposing
  | offer (a : Channel) (c : Chan) (answer : Answer) (answers : a.offer c = some answer) : Step a answer.after
  | reportGone (a : Channel) (gone : a.tx.onLine = false ∨ a.tx.messages = []) :
      Step a { a with tx := { a.tx with onLine := false } }
  | reportMore (a : Channel) (clash : Bool) (m : TxMessage) (rest : List TxMessage) (onLine : a.tx.onLine = true)
      (listed : a.tx.messages = m :: rest) (more : m.sent + 1 ≠ m.length) :
      Step a { a with
        credits := a.credits.paidFor m
        probe := if m.sent = 0 then a.probe.map (fun _ => 0) else a.probe
        tx := { a.tx with
          onLine := false
          messages := { m with sent := m.sent + 1, clashed := m.clashed || clash } :: rest } }
  | reportLast (a : Channel) (m : TxMessage) (rest : List TxMessage) (onLine : a.tx.onLine = true)
      (listed : a.tx.messages = m :: rest) (last : m.sent + 1 = m.length) :
      Step a { a with
        credits := a.credits.paidFor m
        probe := a.probe.map (fun _ => 0)
        tx := { a.tx with
          onLine := false
          messages := rest
          free := (a.tx.free + m.length) % a.txRegion.capacity } }
  | reportStreamWord (a : Channel) : Step a a.reportStreamWord
  -- The receiving side (06 R98 to R101, 08)
  | dataWord (a : Channel) (frame : Word) (k : Kind) (receiving : a.receiving = true) : Step a (a.dataWord frame k).1
  | checkError (a : Channel) (receiving : a.receiving = true) : Step a a.rxCheckError
  | release (a : Channel) (r : RxRecord) (rest : List RxRecord) (records : a.rx.records = r :: rest)
      (complete : r.complete = true) : Step a (a.releaseHead r rest)
  | advanceRead (a : Channel) (r : RxRecord) (rest : List RxRecord) (records : a.rx.records = r :: rest)
      (unread : r.readPos < r.length) : Step a (a.advanceRead r rest)
  -- Both sides (01 R16, 03 R38, R45)
  | loseHighway (a : Channel) : Step a a.loseHighway
  | giveTxRegion (a : Channel) (r : Region) (free : a.reconfigurable = true) : Step a (a.giveTxRegion r)
  | giveRxRegion (a : Channel) (r : Region) (free : a.reconfigurable = true) : Step a (a.giveRxRegion r)
  | configure (a : Channel) (k : Nat) (w : Word) (g : ChanConfig) (written : a.config.write k w = some g)
      (free : k ≠ 0 ∨ a.reconfigurable = true) : Step a { a with config := g }

/-- The probe timer is due when it runs and its count has reached the delay (06 R108). -/
theorem Channel.probeDue_iff (ch : Channel) (delay : Nat) :
    ch.probeDue delay = true ↔ ∃ n, ch.probe = some n ∧ delay ≤ n := by
  cases hprobe : ch.probe <;> simp [Channel.probeDue, hprobe]

/-- What a command can do to one channel: nothing, or one thing after another. -/
abbrev Channel.Steps : Channel → Channel → Prop := Relation.ReflTransGen Channel.Step

/-- A property that each step keeps is kept by steps one after another. -/
theorem Channel.Steps.keeps {P : Channel → Prop} (h : ∀ a b, Channel.Step a b → P a → P b) {a b : Channel}
    (hsteps : Channel.Steps a b) (ha : P a) : P b := by
  induction hsteps with
  | refl => exact ha
  | tail _ hstep ih => exact h _ _ hstep ih

/-- From `s` to `t` each channel took such steps. -/
def ChannelsMove (s t : State) : Prop := ∀ c : Chan, Channel.Steps (s.chan c) (t.chan c)

namespace ChannelsMove

/-! ### What gives it -/

/-- What changes no channel. -/
theorem elsewhere {s t : State} (chans : t.chans = s.chans := by rfl) : ChannelsMove s t := fun c => by
  rw [State.chan, State.chan, chans]

theorem same (s : State) : ChannelsMove s s := elsewhere

theorem trans {s t u : State} (h : ChannelsMove s t) (k : ChannelsMove t u) : ChannelsMove s u :=
  fun c => (h c).trans (k c)

/-- An operation on one channel. -/
theorem of_touches {c : Chan} {s t : State} (h : TouchesOnly c s t) (hc : Channel.Steps (s.chan c) (t.chan c)) :
    ChannelsMove s t := by
  intro d
  by_cases hd : d = c
  · exact hd ▸ hc
  · rw [h.chan d hd]

theorem setChan {s t : State} (h : ChannelsMove s t) (c : Chan) {ch : Channel} (hch : Channel.Step (t.chan c) ch) :
    ChannelsMove s (t.setChan c ch) := by
  have htouch : TouchesOnly c t (t.setChan c ch) := .modChan c t fun _ => ch
  refine h.trans (of_touches htouch ?_)
  rw [State.chan_setChan_same]
  exact .single hch

theorem modChan {s t : State} (h : ChannelsMove s t) (c : Chan) {f : Channel → Channel}
    (hf : Channel.Step (t.chan c) (f (t.chan c))) : ChannelsMove s (t.modChan c f) :=
  h.setChan c hf

theorem mapChans {s t : State} (h : ChannelsMove s t) {f : Channel → Channel}
    (hf : ∀ ch : Channel, Channel.Steps ch (f ch)) : ChannelsMove s (t.mapChans f) := fun c => by
  rw [State.chan_mapChans]
  exact (h c).trans (hf _)

/-- One operation after another. -/
theorem foldl {α : Type} {f : State → α → State} (hf : ∀ s a, ChannelsMove s (f s a)) (l : List α)
    (s : State) : ChannelsMove s (l.foldl f s) := by
  induction l generalizing s with
  | nil => exact same s
  | cons a l ih => exact (hf s a).trans (ih (f s a))

theorem finish {s t : State} (h : ChannelsMove s t) : Ensures (finish t) (ChannelsMove s) := .next h

theorem finishDevice {s t : State} (h : ChannelsMove s t) (r : CmdResult) :
    Ensures (finishDevice t r) (ChannelsMove s) := .next h

theorem finishChannel {s t : State} (h : ChannelsMove s t) (r : CmdResult) :
    Ensures (finishChannel t r) (ChannelsMove s) := .next h

theorem tableAccess {s act : State} {tables : List Nat} (h : ChannelsMove s act) :
    Ensures (tableAccess s tables act) (ChannelsMove s) := tableAccess_ensures s (same s) fun _ _ => h

/-! ### Link operations (05 section 5.2 to 5.6) -/

section
variable (s : State) (c : Chan)

theorem queueRequest (op : Opcode) : ChannelsMove s (s.queueRequest c op) := elsewhere

theorem queueResponse (op : Opcode) (station channel : Address) (matched : Bool) :
    ChannelsMove s (s.queueResponse c op station channel matched) := by
  unfold State.queueResponse
  split
  · exact same s
  · exact elsewhere

theorem replyPeer (op : Opcode) : ChannelsMove s (s.replyPeer c op) := queueResponse s c op _ _ _

theorem closeConnected (cause : Cause) (h : (s.chan c).link.state.connected = true) :
    ChannelsMove s (s.closeConnected c cause) := by
  rw [State.closeConnected_eq]
  exact (elsewhere).modChan c (.clearDown _ cause h)

theorem closeUnconnected (cause : Cause) (h : (s.chan c).link.state = .listen ∨ (s.chan c).link.state = .opening) :
    ChannelsMove s (s.closeUnconnected c cause) := by
  rw [State.closeUnconnected_eq]
  exact (elsewhere).modChan c (.giveUp _ cause h)

theorem enterFault (cause : Cause) (h : (s.chan c).link.state = .opening) : ChannelsMove s (s.enterFault c cause) := by
  rw [State.enterFault_eq]
  exact (elsewhere).modChan c (.fail _ cause h)

theorem enterOpen
    (h : ((s.chan c).config.mode = .credit ∧ ((s.chan c).link.state = .listen ∨ (s.chan c).link.state = .opening)) ∨
      ((s.chan c).config.mode = .stream ∧ (s.chan c).link.state = .closed ∧ (s.chan c).rx.records = [] ∧
        (s.chan c).tx.fifo = [])) : ChannelsMove s (s.enterOpen c) := by
  rw [State.enterOpen_eq]
  exact (elsewhere).modChan c (.enterOpen _ h)

theorem startOpening
    (h : (s.chan c).link.state = .listen ∨ ((s.chan c).link.state = .closed ∧ (s.chan c).config.mode = .credit ∧
      (s.chan c).rx.records = [] ∧ (s.chan c).tx.composing = 0)) : ChannelsMove s (s.startOpening c) :=
  (queueRequest s c .open_).modChan c (.startOpening _ s.lnk h)

theorem peerRestart (hst : (s.chan c).link.state = .opened) (hmode : (s.chan c).config.mode = .credit) :
    ChannelsMove s (s.peerRestart c) := by
  rw [State.peerRestart_eq_modChan]
  exact (elsewhere).modChan c (.restart _ hst hmode)

theorem completeDrain : ChannelsMove s (s.completeDrain c) := by
  unfold State.completeDrain
  dsimp only
  split
  case h_1 hmode hst => exact (queueRequest s c .close).modChan c (.closeWait _ s.lnk hst hmode)
  case h_2 hst =>
    exact (replyPeer s c .closeAck).trans (closeConnected _ c _ (by rw [State.chan_replyPeer, hst]; rfl))
  case h_3 hst => exact closeConnected s c _ (by rw [hst]; rfl)
  case h_4 => exact same s

theorem takeDrain : ChannelsMove s (s.takeDrain c) := by
  unfold State.takeDrain
  split
  · exact completeDrain s c
  · exact same s

theorem takeAnswerExpiry : ChannelsMove s (s.takeAnswerExpiry c) := by
  unfold State.takeAnswerExpiry
  dsimp only
  split_ifs with _ hst _ hopening
  · exact (queueRequest s c _).modChan c (.retryAnswer _ _ hst)
  · exact enterFault s c _ hopening
  · exact closeConnected s c _ (by rw [hst.resolve_left hopening]; rfl)
  · exact (same s).modChan c (.stopAnswer _ (fun h => hst (.inl h)) fun h => hst (.inr h))
  · exact same s

theorem takeProbeExpiry : ChannelsMove s (s.takeProbeExpiry c) := by
  unfold State.takeProbeExpiry
  split
  · rename_i hdue
    obtain ⟨n, hprobe, -⟩ := ((s.chan c).probeDue_iff _).mp hdue
    exact (queueRequest s c .probe).modChan c (.restartProbe _ (Option.isSome_of_mem hprobe))
  · exact same s

theorem takeRefresh : ChannelsMove s s.takeRefresh := by
  unfold State.takeRefresh State.refreshMarks
  split
  · refine (elsewhere).mapChans fun ch => ?_
    split
    · exact .single (.marks ch _ _)
    · exact .refl
  · exact same s

theorem mapTest : ChannelsMove s s.mapTest := by
  rw [State.mapTest_frame]
  exact elsewhere

theorem takeDue : ChannelsMove s s.takeDue :=
  ((((mapTest s).trans (foldl takeAnswerExpiry _ _)).trans (foldl takeProbeExpiry _ _)).trans (takeRefresh _)).trans
    (foldl takeDrain _ _)

/-! ### Channel commands (05 R77, R78) -/

theorem closeCredit (hst : (s.chan c).link.state = .opened) (hmode : (s.chan c).config.mode = .credit) :
    ChannelsMove s (s.closeCredit c) := by
  have hdrained := (same s).modChan c (f := fun ch => ch.dropComposing.moveTo .drain) (.drainCredit _ hst hmode)
  unfold State.closeCredit
  dsimp only
  split
  · exact hdrained.trans (completeDrain _ c)
  · exact hdrained

theorem closeStream (hst : (s.chan c).link.state = .opened) (hmode : (s.chan c).config.mode = .stream) :
    ChannelsMove s (s.closeStream c) := by
  have hdrained := (same s).modChan c (f := fun ch =>
    Channel.moveTo (if ch.tx.openMessage then { ch with tx := ch.tx.endOpenMessage } else ch) .drain)
    (.drainStream _ hst hmode)
  unfold State.closeStream
  dsimp only
  split
  · exact hdrained.trans (completeDrain _ c)
  · exact hdrained

theorem closeUnopened (h : (s.chan c).link.state = .listen ∨ (s.chan c).link.state = .opening) :
    ChannelsMove s (s.closeUnopened c) := (closeUnconnected s c .closed h).trans elsewhere

theorem resetConnected (h : (s.chan c).link.state.connected = true) : ChannelsMove s (s.resetConnected c) := by
  unfold State.resetConnected
  split
  · exact (queueRequest s c .reset).trans (closeConnected _ c _ h)
  · exact closeConnected s c _ h

/-! ### Received control words (05 section 5.4) -/

section
variable (hmode : (s.chan c).config.mode = .credit)
include hmode

theorem matchedOpen : ChannelsMove s (s.matchedOpen c) := by
  have henter (h : (s.chan c).link.state = .listen ∨ (s.chan c).link.state = .opening) :
      ChannelsMove s ((s.replyPeer c .openAck).enterOpen c) :=
    (replyPeer s c _).trans (enterOpen _ c (.inl (by rw [State.chan_replyPeer]; exact ⟨hmode, h⟩)))
  have hclose (h : (s.chan c).link.state.connected = true) :
      ChannelsMove s ((s.replyPeer c .reset).closeConnected c .peerReset) :=
    (replyPeer s c _).trans (closeConnected _ c _ (by rwa [State.chan_replyPeer]))
  unfold State.matchedOpen
  split
  case h_1 hst => exact henter (.inl hst)
  case h_2 hst => exact henter (.inr hst)
  case h_3 hst => exact peerRestart s c hst hmode
  case h_4 hst | h_5 hst | h_6 hst => exact hclose (by rw [hst]; rfl)
  case h_7 | h_8 => exact replyPeer s c _

theorem matchedOpenAck : ChannelsMove s (s.matchedOpenAck c) := by
  unfold State.matchedOpenAck
  split
  case h_1 hst => exact enterOpen s c (.inl ⟨hmode, .inr hst⟩)
  case h_2 => exact replyPeer s c _
  all_goals exact same s

theorem matchedClose : ChannelsMove s (s.matchedClose c) := by
  unfold State.matchedClose
  split
  case h_1 hst =>
    split
    · exact (replyPeer s c _).trans (closeConnected _ c _ (by rw [State.chan_replyPeer, hst]; rfl))
    · rename_i hlisted
      exact (same s).modChan c (.yieldOpened _ hst hmode (by simpa using hlisted))
  case h_2 hst => exact (same s).modChan c (.yieldDrain _ hst hmode)
  case h_8 => exact same s
  all_goals exact replyPeer s c _

theorem matchedWord (op : Opcode) (v : BitVec 5) : ChannelsMove s (s.matchedWord c op v) := by
  cases op
  case open_ => exact matchedOpen s c hmode
  case openAck => exact matchedOpenAck s c hmode
  case close => exact matchedClose s c hmode
  case closeAck =>
    unfold State.matchedWord State.matchedCloseAck
    dsimp only
    split
    · rename_i hst
      exact closeConnected s c _ (by rw [hst]; rfl)
    · exact same s
  case reset =>
    unfold State.matchedWord State.matchedReset
    dsimp only
    split
    case h_1 hst => exact enterFault s c _ hst
    case h_2 hst | h_3 hst | h_4 hst | h_5 hst => exact closeConnected s c _ (by rw [hst]; rfl)
    all_goals exact same s
  all_goals
    unfold State.matchedWord State.whenConnected
    dsimp only
    split
  case probe.isTrue => exact (same s).modChan c (.marks _ _ _)
  case wordLevel.isTrue h => exact (same s).modChan c (.hearWordLevel _ v h hmode)
  case msgLevel.isTrue h => exact (same s).modChan c (.hearMsgLevel _ v h hmode)
  all_goals exact same s

end

theorem takeControl (source : Address) (w : Word) : ChannelsMove s (s.takeControl source w) := by
  unfold State.takeControl State.unmatchedWord
  dsimp only
  split_ifs with _ _ hmatch
  · exact same s
  · exact elsewhere
  · exact matchedWord s _ ((Channel.matchesWord_iff _ _ _ _).mp hmatch |>.1) _ _
  · exact ChannelsMove.trans (t := s.countHw .unmatchedControl) elsewhere (queueResponse _ _ _ _ _ _)
  · exact elsewhere

theorem receiveControl (source : Address) (w : Received) : ChannelsMove s (s.receiveControl source w) := by
  unfold State.receiveControl
  split
  case h_1 | h_2 | h_3 => exact same s
  case h_4 => exact takeControl s _ _
  all_goals exact elsewhere

/-! ### Slots and frames -/

theorem screen (w : Received) : ChannelsMove s (s.screen w) := by
  unfold State.screen
  split <;> exact elsewhere

theorem disposeUnused (w : Received) : ChannelsMove s (s.disposeUnused w) := by
  unfold State.disposeUnused
  split <;> exact elsewhere

theorem receiveData (w : Received) : ChannelsMove s (s.receiveData c w) := by
  cases w with
  | checkError =>
    unfold State.receiveData
    dsimp only
    split
    · rename_i hrx
      exact (same s).modChan c (.checkError _ hrx)
    · exact same s
  | word k p =>
    cases hk : k.isData with
    | true =>
      rw [State.receiveData_data s c p hk]
      split
      · rename_i hrx
        have hset := (same s).setChan c (.dataWord _ s.hwi.frame k hrx)
        unfold State.takeData
        dsimp only
        split
        · exact hset.trans elsewhere
        · exact hset
      · exact elsewhere
    | false =>
      cases k
      case control => exact elsewhere (t := s.countHw .kindMismatches)
      case header | fill | idle => exact same s
      all_goals cases hk

theorem endLine (clash : Bool) : ChannelsMove s (s.endLine clash) := by
  unfold State.endLine
  dsimp only
  split <;> exact elsewhere

theorem reportCredit (clash : Bool) : ChannelsMove s (s.reportCredit c clash) := by
  by_cases hgone : (s.chan c).tx.onLine = false ∨ (s.chan c).tx.messages = []
  · rw [State.reportCredit_gone clash hgone]
    exact (same s).setChan c (.reportGone _ hgone)
  · rw [not_or, Bool.not_eq_false] at hgone
    obtain ⟨hon, hlisted⟩ := hgone
    obtain ⟨m, rest, hcons⟩ := List.exists_cons_of_ne_nil hlisted
    by_cases hlast : m.sent + 1 = m.length
    · rw [State.reportCredit_last clash hon hcons hlast]
      exact (elsewhere).setChan c (.reportLast _ m rest hon hcons hlast)
    · rw [State.reportCredit_more clash hon hcons hlast]
      exact (same s).setChan c (.reportMore _ clash m rest hon hcons hlast)

theorem settleControl (clash : Bool) : ChannelsMove s (s.settleControl clash) :=
  (elsewhere).mapChans fun ch => .single (.marks ch _ _)

theorem arbitrate : ChannelsMove s s.arbitrate.2 := by
  unfold State.arbitrate
  split
  · exact elsewhere
  · split
    · rename_i p _
      refine ChannelsMove.modChan (t := { s with lnk := { s.lnk with lastPosition := p } }) elsewhere _ ?_
      dsimp only
      split
      · exact .marks _ _ _
      · exact .marks _ _ _
    · exact same s

theorem frameStart : ChannelsMove s s.frameStart := (elsewhere).mapChans fun ch => .single (.countFrame ch)

theorem loseHighway (dest : Sync) (pulse : Option Nat) : ChannelsMove s (s.loseHighway dest pulse) :=
  (elsewhere).mapChans fun ch => .single (.loseHighway ch)

theorem checkHeader (line : SlotBits) : ChannelsMove s (s.checkHeader line) := by
  unfold State.checkHeader
  split
  · split <;> exact elsewhere
  · exact elsewhere

theorem inFollowerFrame : ChannelsMove s s.inFollowerFrame := by
  unfold State.inFollowerFrame
  split <;> exact elsewhere

theorem inMasterFrame : ChannelsMove s s.inMasterFrame := by
  unfold State.inMasterFrame
  split <;> exact elsewhere

/-- A loss by pulses is a loss after the counters moved (01 R13, R14). -/
theorem loseLock (pulse : Option Nat) : ChannelsMove s (s.loseLock pulse) :=
  ChannelsMove.trans (t := (s.countHw .syncMisses).raise .lockLost) elsewhere (loseHighway _ _ _)

/-- A clash in a Master's slot 0 is a loss after the counters moved (01 R15). -/
theorem masterConflict : ChannelsMove s s.masterConflict :=
  ChannelsMove.trans (t := (s.lineFault .clashes).raise .masterConflict) elsewhere (loseHighway _ _ _)

end

end ChannelsMove

end Sys2Proof.Machine
end

section
/-! SUPPORT. The steps that each command takes on the channels: every command but the resets changes a channel by the
steps of `Channel.Step` alone. -/

namespace Sys2Proof.Machine

-- One theorem after another, as in the tests: many at once ask for more threads than there are.
set_option Elab.async false

open ChannelsMove (same elsewhere)

theorem Mode.eq_credit_of_ne_stream {m : Mode} (h : m ≠ .stream) : m = .credit := by
  cases m
  · rfl
  · exact absurd rfl h

section
variable (s : State)

/-! ### Channel commands and CDATA accesses (05 R75 to R79, 07 R111 to R113, R119 to R121, 08 R139, R141) -/

theorem execChanOpen_channelsMove : Ensures (execChanOpen s) (ChannelsMove s) := by
  have hrefuse := fun r => (same s).finishChannel r
  refine .live (same s) fun _ => ?_
  dsimp only
  split
  case h_1 hst hmode =>
    split_ifs with hheld
    · exact hrefuse _
    · exact hrefuse _
    · simp only [Bool.or_eq_true, Bool.not_eq_true', List.isEmpty_eq_false_iff, decide_eq_true_eq, not_or,
        ne_eq, not_not, Nat.pos_iff_ne_zero] at hheld
      exact (ChannelsMove.startOpening s _ (.inr ⟨hst, hmode, hheld⟩)).finishChannel _
  case h_2 hst hmode =>
    split_ifs with hheld
    · exact hrefuse _
    · exact hrefuse _
    · simp only [Bool.or_eq_true, Bool.not_eq_true', List.isEmpty_eq_false_iff, not_or, ne_eq, not_not] at hheld
      exact (ChannelsMove.enterOpen s _ (.inr ⟨hmode, hst, hheld⟩)).finishChannel _
  case h_3 hst =>
    split_ifs
    · exact hrefuse _
    · exact (ChannelsMove.startOpening s _ (.inl hst)).finishChannel _
  case h_4 => exact hrefuse _

theorem execChanListen_channelsMove : Ensures (execChanListen s) (ChannelsMove s) := by
  have hrefuse := fun r => (same s).finishChannel r
  refine .live (same s) fun _ => ?_
  dsimp only
  split_ifs with hst hmode hheld
  · exact hrefuse _
  · exact hrefuse _
  · exact hrefuse _
  · simp only [Bool.or_eq_true, Bool.not_eq_true', List.isEmpty_eq_false_iff, decide_eq_true_eq, not_or,
      ne_eq, not_not, Nat.pos_iff_ne_zero] at hheld
    exact ((same s).modChan _ (.listen _ hst (Mode.eq_credit_of_ne_stream hmode) hheld.1 hheld.2)).finishChannel _
  · exact hrefuse _

theorem execChanClose_channelsMove : Ensures (execChanClose s) (ChannelsMove s) := by
  refine .live (same s) fun _ => ?_
  dsimp only
  split
  case h_1 hst =>
    split
    · rename_i hmode
      exact (ChannelsMove.closeCredit s _ hst hmode).finishChannel _
    · rename_i hmode
      exact (ChannelsMove.closeStream s _ hst hmode).finishChannel _
  case h_2 hst => exact (ChannelsMove.closeUnopened s _ (.inl hst)).finishChannel _
  case h_3 hst => exact (ChannelsMove.closeUnopened s _ (.inr hst)).finishChannel _
  all_goals exact (same s).finishChannel _

theorem execChanReset_channelsMove : Ensures (execChanReset s) (ChannelsMove s) := by
  refine .live (same s) fun _ => ?_
  dsimp only
  split
  case h_1 hst =>
    exact ((ChannelsMove.queueRequest s _ .reset).trans (.closeUnconnected _ _ _ (.inr hst))).finishChannel _
  case h_2 hst => exact (ChannelsMove.closeUnconnected s _ _ (.inl hst)).finishChannel _
  case h_3 hst | h_4 hst | h_5 hst | h_6 hst =>
    exact (ChannelsMove.resetConnected s _ (by rw [hst]; rfl)).finishChannel _
  case h_7 | h_8 => exact (same s).finishChannel _

theorem execChanFlush_channelsMove : Ensures (execChanFlush s) (ChannelsMove s) := by
  refine .live (same s) fun _ => ?_
  dsimp only
  split_ifs with hst
  · exact ((same s).modChan _ (.flush _ hst)).finishChannel _
  · exact (same s).finishChannel _

theorem execChanPost_channelsMove : Ensures (execChanPost s) (ChannelsMove s) := by
  have hrefuse := fun r => (same s).finishChannel r
  refine .live (same s) fun _ => ?_
  split
  case h_1 hmode =>
    unfold State.postCredit
    dsimp only
    split_ifs with hst hcomposing hspoiled hroom
    · exact hrefuse _
    · exact hrefuse _
    · exact hrefuse _
    · exact hrefuse _
    · refine ((elsewhere).modChan _ ?_).finishChannel _
      exact .post _ hmode hst hcomposing (Bool.eq_false_of_not_eq_true hspoiled) (Nat.lt_of_not_le hroom)
    · exact hrefuse _
  case h_2 hmode =>
    unfold State.postStream
    dsimp only
    split_ifs with hsending
    · refine ((same s).modChan _ ?_).finishChannel _
      exact .endOpenMessage _ hmode hsending
    · exact hrefuse _
    · exact hrefuse _

theorem execChanAbandon_channelsMove : Ensures (execChanAbandon s) (ChannelsMove s) := by
  have hrefuse := fun r => (same s).finishChannel r
  refine .live (same s) fun _ => ?_
  split
  case h_1 hmode =>
    unfold State.abandonCredit
    split_ifs
    · exact ((same s).modChan _ (.dropComposing _ hmode)).finishChannel _
    · exact hrefuse _
  case h_2 hmode =>
    unfold State.abandonStream
    dsimp only
    split_ifs with hsending
    · refine ((same s).modChan _ ?_).finishChannel _
      exact .abandonOpenMessage _ hmode hsending
    · exact hrefuse _
    · exact hrefuse _

theorem execChanRelease_channelsMove : Ensures (execChanRelease s) (ChannelsMove s) := by
  refine .live (same s) fun _ => ?_
  split
  case h_1 => exact (same s).finishChannel _
  case h_2 r rest hrecords =>
    split_ifs with hcomplete
    · refine ((same s).modChan _ ?_).finishChannel _
      exact .release _ r rest hrecords hcomplete
    · exact (same s).finishChannel _

theorem execCdataWrite_channelsMove (w : Word) : Ensures (execCdataWrite w s) (ChannelsMove s) := by
  refine .live (same s) fun _ => ?_
  dsimp only
  split_ifs with htaken
  · refine ((elsewhere).modChan _ ?_).finish
    exact .appendWord _ htaken
  · exact .fault _
  · exact ((same s).modChan _ (.refuseWrite _ (Bool.eq_false_of_not_eq_true htaken))).finish

theorem execCdataRead_channelsMove : Ensures (execCdataRead s) (ChannelsMove s) := by
  have hnothing : Ensures (finish (s.readNothing s.host.selected)) (ChannelsMove s) :=
    (ChannelsMove.modChan (t := s.returns 0) elsewhere _ (.latches _ _)).finish
  refine .live (same s) fun _ => ?_
  dsimp only
  split
  case h_1 => exact hnothing
  case h_2 r rest hrecords =>
    split_ifs with hunread
    · exact ((elsewhere).modChan _ (.advanceRead _ r rest hrecords hunread)).finish
    · exact .fault _
    · exact hnothing

/-! ### Device commands and register writes -/

theorem execStart_channelsMove : Ensures (execStart s) (ChannelsMove s) := by
  refine .live (same s) fun _ => ?_
  split
  · refine ChannelsMove.finishDevice (t := s.startHighway) ?_ _
    unfold State.startHighway
    dsimp only
    split <;> exact elsewhere
  all_goals exact (same s).finishDevice _

theorem execStop_channelsMove : Ensures (execStop s) (ChannelsMove s) := by
  refine .live (same s) fun _ => ?_
  split
  · exact (same s).finishDevice _
  · exact (elsewhere).finishDevice _
  all_goals exact ((ChannelsMove.takeDue s).trans (.loseHighway _ _ _)).finishDevice _

theorem execSwitch_channelsMove : Ensures (execSwitch s) (ChannelsMove s) := by
  refine .live (same s) fun _ => ?_
  split_ifs <;> exact (elsewhere).finishDevice _

theorem execCancel_channelsMove : Ensures (execCancel s) (ChannelsMove s) := by
  refine .live (same s) fun _ => ?_
  split_ifs <;> exact (elsewhere).finishDevice _

theorem execPopcq_channelsMove : Ensures (execPopcq s) (ChannelsMove s) := by
  refine .live (same s) fun _ => ?_
  split <;> exact (elsewhere).finishDevice _

theorem execUnknownCommandCode_channelsMove (port : CmdPort) (w : Word) :
    Ensures (execUnknownCommandCode port w s) (ChannelsMove s) := by
  refine .live (same s) fun _ => ?_
  split
  · exact .next (same s)
  · cases port
    · exact (same s).finishDevice _
    · exact (same s).finishChannel _

theorem execHcfgWrite_channelsMove (w : Word) : Ensures (execHcfgWrite w s) (ChannelsMove s) := by
  refine .live (same s) fun _ => ?_
  split
  · exact (elsewhere).finish
  · exact (same s).finishDevice _

theorem execHdivWrite_channelsMove (w : Word) : Ensures (execHdivWrite w s) (ChannelsMove s) := by
  refine .live (same s) fun _ => ?_
  split
  · exact (elsewhere).finish
  · exact (same s).finishDevice _

theorem execTimingWrite_channelsMove (w : Word) : Ensures (execTimingWrite w s) (ChannelsMove s) := by
  refine .live (same s) fun _ => ?_
  split
  · exact (same s).finishDevice _
  · exact (elsewhere).finish

theorem execTiming2Write_channelsMove (w : Word) : Ensures (execTiming2Write w s) (ChannelsMove s) := by
  refine .live (same s) fun _ => ?_
  split
  · exact (same s).finishDevice _
  · exact ((elsewhere).mapChans fun ch => .single (.resetProbe ch)).finish

theorem execCqthrWrite_channelsMove (w : Word) : Ensures (execCqthrWrite w s) (ChannelsMove s) := by
  refine .live (same s) fun _ => ?_
  dsimp only
  split
  · exact (elsewhere).finish
  · exact (same s).finishDevice _

theorem execTselWrite_channelsMove (w : Word) : Ensures (execTselWrite w s) (ChannelsMove s) := by
  refine .live (same s) fun _ => ?_
  split
  · exact (elsewhere).finish
  · exact (same s).finishDevice _

theorem execRegisterWrite_channelsMove (r : PlainReg) (w : Word) :
    Ensures (execRegisterWrite r w s) (ChannelsMove s) := by
  refine .live (same s) fun _ => ?_
  cases r
  case darg => exact (elsewhere).finish
  case ctag => exact ((same s).modChan _ (.tag _ w)).finish
  case chsel => exact (elsewhere).finish
  all_goals exact (same s).finish

/-! ### Table accesses -/

theorem execPendingBankWrite_channelsMove (w : Word) : Ensures (execPendingBankWrite w s) (ChannelsMove s) := by
  refine ChannelsMove.tableAccess ?_
  unfold State.writePending
  split
  · exact elsewhere
  · split <;> exact elsewhere

theorem execRegionTableWrite_channelsMove (w : Word) : Ensures (execRegionTableWrite w s) (ChannelsMove s) := by
  refine ChannelsMove.tableAccess ?_
  unfold State.writeRegion
  dsimp only
  split
  · exact elsewhere
  · split
    · rename_i hfree
      refine (same s).modChan _ ?_
      split
      · exact .giveTxRegion _ _ hfree
      · exact .giveRxRegion _ _ hfree
    · exact elsewhere

theorem execConfigWordWrite_channelsMove (w : Word) : Ensures (execConfigWordWrite w s) (ChannelsMove s) := by
  refine ChannelsMove.tableAccess ?_
  unfold State.writeConfig
  dsimp only
  split
  case h_1 => exact elsewhere
  case h_2 g hwritten =>
    split
    · exact elsewhere
    · rename_i hfree
      rw [not_and_or, Bool.not_eq_false] at hfree
      exact (same s).modChan _ (.configure _ _ w g hwritten hfree)

theorem execChannelCounterRead_channelsMove : Ensures (execChannelCounterRead s) (ChannelsMove s) :=
  ChannelsMove.tableAccess (ChannelsMove.modChan (t := s.returnTable) elsewhere _ (.counters _ _))

theorem execHighwayCounterRead_channelsMove : Ensures (execHighwayCounterRead s) (ChannelsMove s) :=
  ChannelsMove.tableAccess elsewhere

theorem execTableRead_channelsMove : Ensures (execTableRead s) (ChannelsMove s) := ChannelsMove.tableAccess elsewhere

/-! ### Synchronisation and frames -/

theorem execAcquirePulse_channelsMove (clock : Nat) : Ensures (execAcquirePulse clock s) (ChannelsMove s) := by
  refine .live (same s) fun _ => ?_
  split_ifs
  · exact (elsewhere).finish
  · exact (elsewhere).finish
  · exact .next (same s)
  · exact .next (same s)

theorem execCandidateHeader_channelsMove (line : SlotBits) : Ensures (execCandidateHeader line s) (ChannelsMove s) := by
  have ht := ChannelsMove.takeDue s
  refine .live (same s) fun _ => ?_
  dsimp only
  generalize s.takeDue = t at ht ⊢
  split_ifs
  · split
    · exact ((ht.trans elsewhere).trans (.frameStart _)).finish
    · exact (ht.trans elsewhere).finish
  · exact .next (same s)

theorem execSyncMiss_channelsMove : Ensures (execSyncMiss s) (ChannelsMove s) := by
  have ht := ChannelsMove.takeDue s
  refine .live (same s) fun _ => ?_
  dsimp only
  generalize s.takeDue = t at ht ⊢
  split_ifs
  · exact (ht.trans elsewhere).finish
  · exact .next (same s)

theorem execHoldoverMiss_channelsMove : Ensures (execHoldoverMiss s) (ChannelsMove s) := by
  refine .live (same s) fun _ => ?_
  split_ifs
  · exact ((ChannelsMove.takeDue s).trans (.loseLock _ _)).finish
  · exact .next (same s)

theorem execMisplacedPulse_channelsMove (bit : Nat) : Ensures (execMisplacedPulse bit s) (ChannelsMove s) := by
  have ht := ChannelsMove.takeDue s
  refine .live (same s) fun _ => ?_
  dsimp only
  generalize s.takeDue = t at ht ⊢
  have hnoted : ∀ k, ChannelsMove s (t.noteHsync k) := fun _ => ht.trans elsewhere
  split_ifs
  · exact ((hnoted _).trans (.loseLock _ _)).finish
  · exact (hnoted _).finish
  · exact .next (same s)
  · exact .next (same s)

theorem execPulseAtExpectedBit_channelsMove : Ensures (execPulseAtExpectedBit s) (ChannelsMove s) := by
  have ht := ChannelsMove.takeDue s
  refine .live (same s) fun _ => ?_
  dsimp only
  generalize s.takeDue = t at ht ⊢
  split_ifs
  · exact (ht.trans elsewhere).finish
  · exact (ht.trans elsewhere).finish
  · exact .next (same s)
  · exact .next (same s)

theorem execFollowerHeaderSlot_channelsMove (line : SlotBits) :
    Ensures (execFollowerHeaderSlot line s) (ChannelsMove s) := by
  have hframe := (ChannelsMove.takeDue s).trans (.inFollowerFrame _)
  refine .live (same s) fun _ => ?_
  split_ifs
  · exact ((hframe.trans (.checkHeader _ line)).trans (.frameStart _)).finish
  · exact .next (same s)

theorem execMasterHeaderSlot_channelsMove (line : SlotBits) :
    Ensures (execMasterHeaderSlot line s) (ChannelsMove s) := by
  have hframe := (ChannelsMove.takeDue s).trans (.inMasterFrame _)
  refine .live (same s) fun _ => ?_
  dsimp only
  split_ifs
  · exact (hframe.trans (.masterConflict _)).finish
  · exact (hframe.trans (.frameStart _)).finish
  · exact .next (same s)

/-! ### Slots -/

theorem execTxdataOffer_channelsMove (n : Slot) : Ensures (execTxdataOffer n s) (ChannelsMove s) := by
  have ht := ChannelsMove.takeDue s
  refine .live (same s) fun _ => ?_
  dsimp only
  generalize s.takeDue = t at ht ⊢
  split
  · split
    · rename_i a hoffer
      have hanswer := ht.setChan _ (.offer _ _ a hoffer)
      unfold State.driveAnswer
      split
      · exact (hanswer.trans elsewhere).finish
      · split_ifs
        · exact (hanswer.trans elsewhere).finish
        · exact .fault _
    · exact (ht.trans elsewhere).finish
  · exact .next (same s)

theorem execTxdataReport_channelsMove (line : SlotBits) : Ensures (execTxdataReport line s) (ChannelsMove s) := by
  have hend := ChannelsMove.endLine s
  refine .live (same s) fun _ => ?_
  split
  · exact .next (same s)
  · dsimp only
    split
    · exact ((hend _).trans (.reportCredit _ _ _)).finish
    · exact ((hend _).modChan _ (.reportStreamWord _)).finish
    · exact ((hend _).modChan _ (.counters _ _)).finish
    · exact (hend _).finish
    · exact .next (same s)

theorem execTxcontrolOffer_channelsMove (n : Slot) : Ensures (execTxcontrolOffer n s) (ChannelsMove s) := by
  have ht := ChannelsMove.takeDue s
  refine .live (same s) fun _ => ?_
  dsimp only
  generalize s.takeDue = t at ht ⊢
  split
  · have harb := ht.trans (.arbitrate t)
    split
    · rename_i payload t1 ht1
      rw [ht1] at harb
      exact (harb.trans elsewhere).finish
    · rename_i t1 ht1
      rw [ht1] at harb
      exact (harb.trans elsewhere).finish
  · exact .next (same s)

theorem execTxcontrolReport_channelsMove (line : SlotBits) : Ensures (execTxcontrolReport line s) (ChannelsMove s) := by
  refine .live (same s) fun _ => ?_
  split
  · exact .next (same s)
  · split
    · exact ((ChannelsMove.endLine s _).trans (.settleControl _ _)).finish
    all_goals exact .next (same s)

/-- A slot begins after the steps that are due. -/
theorem ChannelsMove.takeDue_enterSlot (n : Slot) : ChannelsMove s (s.takeDue.enterSlot n) := by
  have ht := takeDue s
  generalize s.takeDue = t at ht ⊢
  exact ht.trans elsewhere

/-- What comes before a received word is handed on. -/
theorem ChannelsMove.screened (n : Slot) (w : Received) : ChannelsMove s ((s.takeDue.enterSlot n).screen w) :=
  (takeDue_enterSlot s n).trans (screen _ w)

theorem execRxdataWord_channelsMove (n : Slot) (line : SlotBits) :
    Ensures (execRxdataWord n line s) (ChannelsMove s) := by
  intro t ht
  rcases execRxdataWord_next ht with rfl | ⟨c, -, rfl⟩
  · exact same t
  · exact (ChannelsMove.screened s n _).trans (.receiveData _ c _)

theorem execRxcontrolWord_channelsMove (n : Slot) (line : SlotBits) :
    Ensures (execRxcontrolWord n line s) (ChannelsMove s) := by
  refine .live (same s) fun _ => ?_
  dsimp only
  split
  · exact ((ChannelsMove.screened s n _).trans (.receiveControl _ _ _)).finish
  · exact .next (same s)

theorem execUnusedSlotWord_channelsMove (n : Slot) (line : SlotBits) :
    Ensures (execUnusedSlotWord n line s) (ChannelsMove s) := by
  refine .live (same s) fun _ => ?_
  dsimp only
  split
  · exact ((ChannelsMove.takeDue_enterSlot s n).trans (.disposeUnused _ _)).finish
  · exact .next (same s)

end

/-! ### Every command -/

/-- Every command but the resets changes the channels by steps. -/
theorem exec_channelsMove (i : Instr) (s : State) (hsoft : i ≠ .softreset) (hpin : i ≠ .resetPin true) :
    Ensures (exec i s) (ChannelsMove s) := by
  cases i
  case start => exact execStart_channelsMove s
  case stop => exact execStop_channelsMove s
  case switch => exact execSwitch_channelsMove s
  case cancel => exact execCancel_channelsMove s
  case popcq => exact execPopcq_channelsMove s
  case softreset => exact absurd rfl hsoft
  case unknownCommandCode port w => exact execUnknownCommandCode_channelsMove s port w
  case chanOpen => exact execChanOpen_channelsMove s
  case chanListen => exact execChanListen_channelsMove s
  case chanClose => exact execChanClose_channelsMove s
  case chanReset => exact execChanReset_channelsMove s
  case chanFlush => exact execChanFlush_channelsMove s
  case chanPost => exact execChanPost_channelsMove s
  case chanAbandon => exact execChanAbandon_channelsMove s
  case chanRelease => exact execChanRelease_channelsMove s
  case cdataWrite w => exact execCdataWrite_channelsMove s w
  case cdataRead => exact execCdataRead_channelsMove s
  case hcfgWrite w => exact execHcfgWrite_channelsMove s w
  case hdivWrite w => exact execHdivWrite_channelsMove s w
  case devpendWrite w => exact .live (same s) fun _ => (elsewhere).finish
  case devenWrite w => exact .live (same s) fun _ => (elsewhere).finish
  case ceventWrite w => exact .live (same s) fun _ => ((same s).modChan _ (.latches _ _)).finish
  case timingWrite w => exact execTimingWrite_channelsMove s w
  case timing2Write w => exact execTiming2Write_channelsMove s w
  case cqthrWrite w => exact execCqthrWrite_channelsMove s w
  case tselWrite w => exact execTselWrite_channelsMove s w
  case pendingBankWrite w => exact execPendingBankWrite_channelsMove s w
  case regionTableWrite w => exact execRegionTableWrite_channelsMove s w
  case configWordWrite w => exact execConfigWordWrite_channelsMove s w
  case channelCounterRead => exact execChannelCounterRead_channelsMove s
  case highwayCounterRead => exact execHighwayCounterRead_channelsMove s
  case tableRead => exact execTableRead_channelsMove s
  case tableWriteIgnored w => exact ChannelsMove.tableAccess (same s)
  case registerWrite r w => exact execRegisterWrite_channelsMove s r w
  case resetPin asserted =>
    cases asserted
    · exact .next elsewhere
    · exact absurd rfl hpin
  case acquirePulse clock => exact execAcquirePulse_channelsMove s clock
  case candidateHeader line => exact execCandidateHeader_channelsMove s line
  case syncMiss => exact execSyncMiss_channelsMove s
  case holdoverMiss => exact execHoldoverMiss_channelsMove s
  case misplacedPulse bit => exact execMisplacedPulse_channelsMove s bit
  case followerHeaderSlot line => exact execFollowerHeaderSlot_channelsMove s line
  case masterHeaderSlot line => exact execMasterHeaderSlot_channelsMove s line
  case mapSwitch => exact .live (same s) fun _ => (ChannelsMove.mapTest s).finish
  case answerTimerExpiry c => exact .live (same s) fun _ => (ChannelsMove.takeAnswerExpiry s c).finish
  case probeTimerExpiry c => exact .live (same s) fun _ => (ChannelsMove.takeProbeExpiry s c).finish
  case refreshTimerExpiry => exact .live (same s) fun _ => (ChannelsMove.takeRefresh s).finish
  case txdataOffer n => exact execTxdataOffer_channelsMove s n
  case txdataReport line => exact execTxdataReport_channelsMove s line
  case drainCompletion c => exact .live (same s) fun _ => (ChannelsMove.takeDrain s c).finish
  case txcontrolOffer n => exact execTxcontrolOffer_channelsMove s n
  case txcontrolReport line => exact execTxcontrolReport_channelsMove s line
  case rxdataWord n line => exact execRxdataWord_channelsMove s n line
  case rxcontrolWord n line => exact execRxcontrolWord_channelsMove s n line
  case unusedSlotWord n line => exact execUnusedSlotWord_channelsMove s n line
  case pulseAtExpectedBit => exact execPulseAtExpectedBit_channelsMove s

/-- After SOFTRESET a channel is as it was, under RESET#, or as its reset gives (11 R175). -/
theorem execSoftreset_chan {P : Channel → Prop} (s : State) (c : Chan) (h0 : P (s.chan c))
    (hsoft : P (s.chan c).softReset) : Ensures (execSoftreset s) fun t => P (t.chan c) := by
  refine .live h0 fun _ => .next ?_
  rw [State.chan_evaluate, State.chan_setDeviceResult, State.softReset, State.chan_mapChans]
  exact hsoft

/-- An invariant of every channel that each step keeps, and that both resets give, is kept by every command of a queue. -/
theorem step_keeps_channels {P : Channel → Prop} (hstep : ∀ a b, Channel.Step a b → P a → P b)
    (hsoft : ∀ ch : Channel, P ch.softReset) (hreset : P Channel.reset) {s t : State}
    (hs : ∀ c : Chan, P (s.chan c)) (h : step s = .next t) : ∀ c : Chan, P (t.chan c) := by
  unfold step at h
  split at h
  case h_1 =>
    cases h
    exact hs
  case h_2 i rest _ =>
    intro c
    by_cases hrow : i = .softreset ∨ i = .resetPin true
    · rcases hrow with rfl | rfl
      · exact execSoftreset_chan { s with pending := rest } c (hs c) (hsoft _) t h
      · cases h
        exact (State.reset_chan c).symm ▸ hreset
    · rw [not_or] at hrow
      exact (exec_channelsMove i _ hrow.1 hrow.2 t h c).keeps hstep (hs c)

end Sys2Proof.Machine
end

section
/-! SUPPORT. The timers stay with their states: what each step does to the link record, the mode and the probe timer of a
channel (05 R70, R73, R91, 06 R107, 03 Table 14). -/

namespace Sys2Proof.Machine

-- One theorem after another, as in the tests: many at once ask for more threads than there are.
set_option Elab.async false

/-! ### What the rule speaks of -/

/-- What the rule on the timers speaks of: the link record, the mode, and whether the probe timer runs. -/
def Channel.timed (ch : Channel) : LinkRecord × Mode × Bool := (ch.link, ch.config.mode, ch.probe.isSome)

section
variable (ch : Channel)

/-! ### Operations that leave it alone -/

@[simp] theorem Channel.raise_timed (e : ChEvent) : (ch.raise e).timed = ch.timed := rfl
@[simp] theorem Channel.count_timed (k : ChCounter) : (ch.count k).timed = ch.timed := rfl
@[simp] theorem Channel.setMarks_timed : ch.setMarks.timed = ch.timed := rfl
@[simp] theorem Channel.clearMarks_timed : ch.clearMarks.timed = ch.timed := rfl
@[simp] theorem Channel.countArrival_timed (b : Bool) : (ch.countArrival b).timed = ch.timed := rfl
@[simp] theorem Channel.modNewest_timed (f : RxRecord → RxRecord) : (ch.modNewest f).timed = ch.timed := rfl
@[simp] theorem Channel.pushRecord_timed (w : Word) : (ch.pushRecord w).timed = ch.timed := rfl
@[simp] theorem Channel.setDiscard_timed (d : Bool) : (ch.setDiscard d).timed = ch.timed := rfl
@[simp] theorem Channel.loseMessage_timed (isFirst : Bool) : (ch.loseMessage isFirst).timed = ch.timed := rfl
@[simp] theorem Channel.dropComposing_timed : ch.dropComposing.timed = ch.timed := rfl
@[simp] theorem Channel.refuseWrite_timed : ch.refuseWrite.timed = ch.timed := rfl
@[simp] theorem Channel.advanceRead_timed (r : RxRecord) (rest : List RxRecord) :
    (ch.advanceRead r rest).timed = ch.timed := rfl
@[simp] theorem Channel.giveTxRegion_timed (r : Region) : (ch.giveTxRegion r).timed = ch.timed := rfl
@[simp] theorem Channel.giveRxRegion_timed (r : Region) : (ch.giveRxRegion r).timed = ch.timed := rfl

/-- A probe timer whose count is set to 0 runs when it ran before. -/
@[simp] theorem Channel.resetProbe_timed : ch.resetProbe.timed = ch.timed := by
  simp [Channel.timed, Channel.resetProbe]

@[simp] theorem Channel.zeroCredits_timed : ch.zeroCredits.timed = ch.timed := Channel.resetProbe_timed _

@[simp] theorem Channel.grant_timed : ch.grant.timed = ch.timed := by
  rw [Channel.grant_shape]
  rfl

@[simp] theorem Channel.releaseHead_timed (r : RxRecord) (rest : List RxRecord) :
    (ch.releaseHead r rest).timed = ch.timed := Channel.grant_timed _

@[simp] theorem Channel.closeOpen_timed (mark : RxFlags → RxFlags) (last : Option Word) :
    (ch.closeOpen mark last).timed = ch.timed := by
  unfold Channel.closeOpen
  split
  · rfl
  · dsimp only
    split <;> rfl

@[simp] theorem Channel.closeBroken_timed : ch.closeBroken.timed = ch.timed := ch.closeOpen_timed _ _

@[simp] theorem Channel.rxAbort_timed : ch.rxAbort.timed = ch.timed := ch.closeOpen_timed _ _

@[simp] theorem Channel.damageOpen_timed : ch.damageOpen.timed = ch.timed := by
  unfold Channel.damageOpen
  split <;> rfl

@[simp] theorem Channel.storeWord_timed : ch.storeWord.1.timed = ch.timed := by
  unfold Channel.storeWord
  split
  · rfl
  · split <;> rfl

@[simp] theorem Channel.assembleStart_timed (frame : Word) (isOnly : Bool) :
    (ch.assembleStart frame isOnly).1.timed = ch.timed := by
  unfold Channel.assembleStart
  dsimp only
  split
  · simp
  · split <;> simp

@[simp] theorem Channel.assembleRest_timed (frame : Word) (isLast : Bool) :
    (ch.assembleRest frame isLast).1.timed = ch.timed := by
  unfold Channel.assembleRest
  split
  · simp
  · dsimp only
    split <;> split <;> simp

@[simp] theorem Channel.assemble_timed (frame : Word) (k : Kind) : (ch.assemble frame k).1.timed = ch.timed := by
  cases k
  case first | only => exact ch.assembleStart_timed frame _
  case middle | last => exact ch.assembleRest_timed frame _
  all_goals rfl

@[simp] theorem Channel.violation_timed (frame : Word) (k : Kind) : (ch.violation frame k).timed = ch.timed := by
  cases k <;> simp [Channel.violation]

@[simp] theorem Channel.creditWord_timed (frame : Word) (k : Kind) : (ch.creditWord frame k).1.timed = ch.timed := by
  unfold Channel.creditWord
  dsimp only
  split
  · simp
  · split
    · rw [Channel.grant_timed]
      split <;> simp
    · simp

@[simp] theorem Channel.streamWord_timed (frame : Word) (k : Kind) : (ch.streamWord frame k).1.timed = ch.timed := by
  unfold Channel.streamWord
  split
  · simp
  · split
    · dsimp only
      split <;> simp
    · simp

@[simp] theorem Channel.dataWord_timed (frame : Word) (k : Kind) : (ch.dataWord frame k).1.timed = ch.timed := by
  unfold Channel.dataWord
  split <;> simp

@[simp] theorem Channel.rxCheckError_timed : ch.rxCheckError.timed = ch.timed := by
  unfold Channel.rxCheckError Channel.creditCheckError
  split
  · dsimp only
    split <;> simp
  · simp

@[simp] theorem Channel.appendWord_timed : ch.appendWord.timed = ch.timed := by
  unfold Channel.appendWord
  split <;> rfl

@[simp] theorem Channel.emptyTx_timed : ch.emptyTx.timed = ch.timed := by
  unfold Channel.emptyTx
  dsimp only
  split
  · exact Channel.resetProbe_timed _
  · rfl

@[simp] theorem Channel.endStarvation_timed (after : Channel) : (ch.endStarvation after).timed = after.timed := by
  unfold Channel.endStarvation
  split <;> simp

@[simp] theorem Channel.reportStreamWord_timed : ch.reportStreamWord.timed = ch.timed := by
  unfold Channel.reportStreamWord
  split <;> rfl

@[simp] theorem Channel.loseHighway_timed : ch.loseHighway.timed = ch.timed := by
  obtain ⟨hlink, -, hprobe, hconfig, -⟩ := ch.loseHighway_lossOn
  simp [Channel.timed, hlink, hprobe, hconfig]

@[simp] theorem Channel.offerFifoWord_timed (c : Chan) (mark : Bool) :
    (ch.offerFifoWord c mark).after.timed = ch.timed := by
  unfold Channel.offerFifoWord
  dsimp only
  split
  · rfl
  · dsimp only
    split <;> rfl

theorem Channel.offer_timed {c : Chan} {answer : Answer} (h : ch.offer c = some answer) :
    answer.after.timed = ch.timed := by
  unfold Channel.offer at h
  split at h
  · unfold Channel.offerCredit at h
    split_ifs at h
    split at h
    · cases h
    · split_ifs at h
      cases h
      rfl
  · unfold Channel.offerStream at h
    split at h
    · split at h
      · cases h
        rfl
      · split at h
        · cases h
          exact ch.offerFifoWord_timed c _
        · split_ifs at h
          cases h
          rfl
    · cases h

/-! ### Operations on the link record and the timers -/

/-- A move changes the state of the link record alone. -/
@[simp] theorem Channel.moveTo_timed (st : LinkState) :
    (ch.moveTo st).timed = ({ ch.timed.1 with state := st }, ch.timed.2) := by
  unfold Channel.moveTo
  split
  · rename_i hst
    rw [← hst]
    rfl
  · rfl

@[simp] theorem Channel.moveToWith_timed (st : LinkState) (cause : Cause) :
    (ch.moveToWith st cause).timed = ({ ch.timed.1 with state := st, cause := cause }, ch.timed.2) := by
  have hcause : (ch.moveToWith st cause).timed =
      ({ (ch.moveTo st).timed.1 with cause := cause }, (ch.moveTo st).timed.2) := rfl
  rw [hcause, Channel.moveTo_timed]

@[simp] theorem Channel.stopAnswer_timed :
    ch.stopAnswer.timed = ({ ch.timed.1 with answerTimer := none }, ch.timed.2) := rfl

@[simp] theorem Channel.stopTimers_timed :
    ch.stopTimers.timed = ({ ch.timed.1 with answerTimer := none }, ch.timed.2.1, false) := rfl

@[simp] theorem Channel.loadAnswer_timed (l : LinkControl) : (ch.loadAnswer l).timed =
    ({ ch.timed.1 with answerTimer := some (4 * l.answerTimeout), retriesLeft := l.retryCount }, ch.timed.2) := rfl

/-- The probe timer starts. -/
@[simp] theorem Channel.startProbe_timed (n : Nat) :
    ({ ch with probe := some n } : Channel).timed = (ch.timed.1, ch.timed.2.1, true) := rfl

@[simp] theorem Channel.newEpoch_timed : ch.newEpoch.timed = (ch.timed.1, ch.timed.2.1, true) := rfl

/-- A frame counts timers that run and starts none (05 R91, 06 R107). -/
@[simp] theorem Channel.countFrame_timed : ch.countFrame.timed =
    ({ ch.timed.1 with answerTimer := ch.timed.1.answerTimer.map (· - 1) }, ch.timed.2) := by
  simp [Channel.timed, Channel.countFrame]

@[simp] theorem Channel.clearDown_timed :
    ch.clearDown.timed = ({ ch.timed.1 with answerTimer := none }, ch.timed.2.1, false) := by
  unfold Channel.clearDown
  dsimp only
  split <;> simp

@[simp] theorem Channel.afterClearDown_timed (cause : Cause) : (ch.afterClearDown cause).timed =
    ({ ch.timed.1 with state := .closed, cause := cause, answerTimer := none }, ch.timed.2.1, false) := by
  simp [Channel.afterClearDown]

@[simp] theorem Channel.afterGivingUp_timed (st : LinkState) (cause : Cause) : (ch.afterGivingUp st cause).timed =
    ({ ch.timed.1 with state := st, cause := cause, answerTimer := none }, ch.timed.2.1, false) := by
  simp [Channel.afterGivingUp]

/-- An entry into OPEN starts the probe timer of a credit channel alone (05 R74). -/
theorem Channel.afterEntry_timed : ch.afterEntry.timed =
    ({ ch.timed.1 with state := .opened, answerTimer := none }, ch.timed.2.1,
      decide (ch.timed.2.1 = .credit) || ch.timed.2.2) := by
  have hview : ch.timed.2 = (ch.config.mode, ch.probe.isSome) := rfl
  unfold Channel.afterEntry
  cases hmode : ch.config.mode <;> simp [hview, hmode]

/-- A peer restart leaves the link record and starts the probe timer (05 R82). -/
@[simp] theorem Channel.afterRestart_timed : ch.afterRestart.timed = (ch.timed.1, ch.timed.2.1, true) := by
  rw [Channel.afterRestart, Channel.startProbe_timed]
  simp

@[simp] theorem Channel.flush_timed : ch.flush.timed = ({ ch.timed.1 with state := .closed }, ch.timed.2) :=
  Channel.moveTo_timed _ .closed

end

/-- A new configuration has the mode of the old one, but for a write of word 0 (03 R38, Table 15). -/
theorem ChanConfig.write_mode {g g' : ChanConfig} {k : Nat} {w : Word} (h : g.write k w = some g') (hk : k ≠ 0) :
    g'.mode = g.mode := by
  unfold ChanConfig.write at h
  split at h
  case h_1 => exact absurd rfl hk
  case h_2 =>
    dsimp only at h
    split_ifs at h
    split at h <;> cases h <;> rfl
  case h_3 | h_6 =>
    cases h
    rfl
  case h_4 | h_5 =>
    dsimp only at h
    split_ifs at h
    cases h
    rfl

/-! ### The rule (05 R70, 06 R107, 03 Table 14) -/

/-- The rule on one channel, by its link record, its mode, and whether its probe timer runs. -/
def TimersRule (v : LinkRecord × Mode × Bool) : Prop :=
  (v.1.answerTimer.isSome = true ↔ (v.1.state = .opening ∨ v.1.state = .closeWait)) ∧
  (v.2.2 = true ↔ (v.2.1 = .credit ∧ v.1.state.connected = true)) ∧
  (v.2.1 = .stream → (v.1.state = .closed ∨ v.1.state = .opened ∨ v.1.state = .drain))

theorem timersFollowLinks_iff (s : State) : TimersFollowLinks s ↔ ∀ c : Chan, TimersRule (s.chan c).timed := by
  simp [TimersFollowLinks, TimersRule, Channel.timed, Channel.creditConnected]

/-- The rule by link state: where the answer timer runs, where the probe timer runs, and which states are a credit
channel's alone. -/
theorem timersRule_iff (v : LinkRecord × Mode × Bool) : TimersRule v ↔
    match v.1.state with
    | .closed => v.1.answerTimer.isSome = false ∧ v.2.2 = false
    | .listen | .fault => v.1.answerTimer.isSome = false ∧ v.2.2 = false ∧ v.2.1 = .credit
    | .opening => v.1.answerTimer.isSome = true ∧ v.2.2 = false ∧ v.2.1 = .credit
    | .opened | .drain => v.1.answerTimer.isSome = false ∧ v.2.2 = decide (v.2.1 = .credit)
    | .closeWait => v.1.answerTimer.isSome = true ∧ v.2.2 = true ∧ v.2.1 = .credit
    | .yield => v.1.answerTimer.isSome = false ∧ v.2.2 = true ∧ v.2.1 = .credit := by
  obtain ⟨⟨st, cause, answer, retries⟩, mode, probe⟩ := v
  cases st <;> cases mode <;> simp [TimersRule, LinkState.connected]

/-- In CLOSED no timer runs, whatever the mode (05 R73). -/
theorem TimersRule.of_closed {l : LinkRecord} {mode : Mode} {probe : Bool} (hst : l.state = .closed)
    (h : TimersRule (l, mode, probe)) (mode' : Mode) : TimersRule (l, mode', probe) := by
  simp only [timersRule_iff, hst] at h ⊢
  exact h

/-- Every step keeps the rule: some leave the timed parts alone, the moves between link states leave the timers as the
state they lead to wants them, and a timer that is set anew ran before. -/
theorem TimersRule.step {a b : Channel} (h : Channel.Step a b) (ha : TimersRule a.timed) : TimersRule b.timed := by
  have hsame : ∀ b' : Channel, b'.timed = a.timed → TimersRule b'.timed := fun b' hb => hb ▸ ha
  have hview : a.timed = (a.link, a.config.mode, a.probe.isSome) := rfl
  have hrule := ha
  rw [hview, timersRule_iff] at hrule
  cases h
  case marks | latches | counters | tag | post | endOpenMessage | abandonOpenMessage | reportGone => exact ha
  case resetProbe | appendWord | refuseWrite | dropComposing | reportStreamWord | dataWord | checkError | release
    | advanceRead | loseHighway | giveTxRegion | giveRxRegion => exact hsame _ (by simp)
  case hearWordLevel | hearMsgLevel => exact hsame _ (Channel.endStarvation_timed _ _)
  case offer hanswers => exact hsame _ (Channel.offer_timed _ hanswers)
  case reportMore => exact hsame _ (by simp only [Channel.timed]; split <;> simp)
  case reportLast => exact hsame _ (by simp [Channel.timed])
  case listen | drainCredit | closeWait | yieldOpened | yieldDrain | clearDown | fail | restart =>
    simp_all [timersRule_iff]
  case drainStream =>
    have hended : (if a.tx.openMessage then { a with tx := a.tx.endOpenMessage } else a).timed = a.timed := by
      split <;> rfl
    simp_all [timersRule_iff]
  case startOpening hbefore => rcases hbefore with hst | hst <;> simp_all [timersRule_iff]
  case enterOpen hbefore =>
    rw [Channel.afterEntry_timed]
    rcases hbefore with ⟨_, hst | hst⟩ | hst <;> simp_all [timersRule_iff]
  case giveUp hst | flush hst => rcases hst with hst | hst <;> simp_all [timersRule_iff]
  case retryAnswer hst => rcases hst with hst | hst <;> simp_all [timersRule_iff, Channel.timed]
  case stopAnswer | restartProbe | countFrame => simp_all [TimersRule]
  case configure k w g hwritten hfree =>
    rcases hfree with hk | hclosed
    · exact hsame _ (by simp only [Channel.timed, ChanConfig.write_mode hwritten hk])
    · exact TimersRule.of_closed ((Channel.reconfigurable_iff a).mp hclosed).1 ha g.mode

/-- Settles O13: each step on a channel keeps the rule, and so do both resets. -/
theorem timersStayWithTheirStates : Obligations.TimersStayWithTheirStates := by
  unfold Obligations.TimersStayWithTheirStates
  intro s t hs hstep
  rw [timersFollowLinks_iff] at hs ⊢
  exact step_keeps_channels (P := fun ch => TimersRule ch.timed) (fun _ _ => TimersRule.step)
    (fun ch => (timersRule_iff _).mpr ⟨rfl, rfl⟩) ((timersRule_iff _).mpr ⟨rfl, rfl⟩) hs hstep

end Sys2Proof.Machine
end

section
/-! SUPPORT. The transitions field by field: flushes, the clear-down, entry into OPEN and the peer restart (05 R71 to R74,
R82). -/

namespace Sys2Proof.Machine

-- One theorem after another, as in the tests: many at once ask for more threads than there are.
set_option Elab.async false

section
variable (ch : Channel)

/-! ### The TX flush (05 R71) -/

/-- A TX flush changes the sending side and the count of the probe timer. -/
theorem Channel.emptyTx_eq : ch.emptyTx = { ch with tx := ch.emptyTx.tx, probe := ch.emptyTx.probe } := by
  unfold Channel.emptyTx
  dsimp only
  split <;> rfl

theorem Channel.emptyTx_tx_credit (h : ch.config.mode = .credit) :
    ch.emptyTx.tx = { ch.tx with free := if ch.tx.held = 0 then ch.tx.free else 0, messages := [], composing := 0,
                                 spoiled := false, onLine := false } := by
  rw [Channel.emptyTx_credit h]

theorem Channel.emptyTx_tx_stream (h : ch.config.mode = .stream) :
    ch.emptyTx.tx = { ch.tx with free := if ch.tx.held = 0 then ch.tx.free else 0, fifo := [], openMessage := false,
                                 inProgress := false, pendingEnd := false, restartMark := false, onLine := false } := by
  simp only [Channel.emptyTx, h]

/-- What a flush makes, as the statements give it by the mode. -/
theorem Channel.flushed_by_mode {c : Chan} {status : CqStatus} {frame : Word} {tx : TxSide} {es : List CqEntry}
    (hcredit : ch.config.mode = .credit → es = ch.tx.messages.map (fun m => m.entry c status frame) ∧
      tx = { ch.tx with free := if ch.tx.held = 0 then ch.tx.free else 0, messages := [], composing := 0,
                        spoiled := false, onLine := false })
    (hstream : ch.config.mode = .stream → es = [] ∧
      tx = { ch.tx with free := if ch.tx.held = 0 then ch.tx.free else 0, fifo := [], openMessage := false,
                        inProgress := false, pendingEnd := false, restartMark := false, onLine := false }) :
    es = ch.flushEntries c status frame ∧ tx = ch.emptyTx.tx := by
  cases hmode : ch.config.mode with
  | credit =>
    obtain ⟨rfl, rfl⟩ := hcredit hmode
    exact ⟨(if_pos hmode).symm, (ch.emptyTx_tx_credit hmode).symm⟩
  | stream =>
    obtain ⟨rfl, rfl⟩ := hstream hmode
    have hne : ch.config.mode ≠ .credit := by rw [hmode]; decide
    exact ⟨(if_neg hne).symm, (ch.emptyTx_tx_stream hmode).symm⟩

/-! ### The RX abort (05 R72) -/

theorem Channel.rxAbort_none (h : ch.rx.openRecord = none) : ch.rxAbort = ch := ch.closeOpen_none _ _ h

/-- An open record closes complete and Aborted with an invalid last frame, and RxTrouble is raised. -/
theorem Channel.rxAbort_some {r : RxRecord} (h : ch.rx.openRecord = some r) :
    ch.rxAbort = { ch with
      rx := { ch.rx with records := ch.rx.records.dropLast ++
        [{ r with complete := true, flags := { r.flags with aborted := true }, lastFrame := none }] }
      latches := ch.latches ||| BitVec.twoPow 4 3 } := by
  rw [Channel.rxAbort, ch.closeOpen_some _ _ h]
  simp [RxFlags.any]

/-- The RX abort changes the receiving side and the latches, by what these are alone. -/
theorem Channel.rxAbort_with (tx : TxSide) (probe : Option Nat) :
    ({ ch with tx := tx, probe := probe } : Channel).rxAbort =
      { ch with tx := tx, probe := probe, rx := ch.rxAbort.rx, latches := ch.rxAbort.latches } := by
  cases hopen : ch.rx.openRecord with
  | none =>
    rw [ch.rxAbort_none hopen]
    exact Channel.rxAbort_none _ hopen
  | some r =>
    rw [ch.rxAbort_some hopen]
    exact Channel.rxAbort_some _ hopen

theorem Channel.rxAbort_emptyTx : ch.emptyTx.rxAbort =
    { ch with tx := ch.emptyTx.tx, probe := ch.emptyTx.probe, rx := ch.rxAbort.rx, latches := ch.rxAbort.latches } := by
  rw [Channel.emptyTx_eq]
  exact ch.rxAbort_with _ _

/-- An aborted record keeps its length and its place, and no record is open after it. -/
theorem Channel.rxAbort_rx : ch.rxAbort.rx.held = ch.rx.held ∧
    ch.rxAbort.rx.records.length = ch.rx.records.length ∧ ch.rxAbort.rx.free = ch.rx.free ∧
    ch.rxAbort.rx.openRecord = none := by
  cases hopen : ch.rx.openRecord with
  | none => rw [ch.rxAbort_none hopen]; exact ⟨rfl, rfl, rfl, hopen⟩
  | some r =>
    obtain ⟨hlast, -⟩ := RxSide.openRecord_some hopen
    have hsplit : ch.rx.records = ch.rx.records.dropLast ++ [r] := (List.dropLast_append_getLast? r hlast).symm
    rw [ch.rxAbort_some hopen]
    refine ⟨?_, ?_, rfl, by simp [RxSide.openRecord]⟩
    · conv_rhs => rw [RxSide.held, hsplit]
      simp [RxSide.held]
    · conv_rhs => rw [hsplit]
      simp

/-- The latches after an RX abort. -/
theorem Channel.rxAbort_latches : ch.rxAbort.latches =
    if ch.rx.openRecord.isSome then ch.latches ||| BitVec.twoPow 4 3 else ch.latches := by
  cases hopen : ch.rx.openRecord with
  | none => rw [ch.rxAbort_none hopen]; rfl
  | some r => rw [ch.rxAbort_some hopen]; rfl

/-! ### The clear-down (05 R73) -/

/-- A move to CLOSED with its clear-down, field by field. -/
theorem Channel.afterClearDown_eq (cause : Cause) (h : ch.link.state ≠ .closed) : ch.afterClearDown cause =
    { ch with
      link := { ch.link with state := .closed, cause := cause, answerTimer := none }
      probe := none
      wordMark := Mark.clear
      msgMark := Mark.clear
      credits := if ch.config.mode = .credit then Credits.zero else ch.credits
      tx := ch.emptyTx.tx
      rx := { ch.rxAbort.rx with discard := false }
      latches := ch.rxAbort.latches ||| BitVec.twoPow 4 0 } := by
  have hdown : ch.emptyTx.clearDown = { ch with
      link := { ch.link with answerTimer := none }
      probe := none
      wordMark := Mark.clear
      msgMark := Mark.clear
      credits := if ch.config.mode = .credit then Credits.zero else ch.credits
      tx := ch.emptyTx.tx
      rx := { ch.rxAbort.rx with discard := false }
      latches := ch.rxAbort.latches } := by
    unfold Channel.clearDown
    dsimp only
    rw [ch.rxAbort_emptyTx]
    cases hmode : ch.config.mode <;> rfl
  rw [Channel.afterClearDown, hdown]
  exact Channel.moveToWith_of_ne _ cause h

/-- A move from LISTEN or OPENING to CLOSED or FAULT, field by field (05 R73, R77, R78). -/
theorem Channel.afterGivingUp_eq {st : LinkState} (cause : Cause) (h : ch.link.state ≠ st) :
    ch.afterGivingUp st cause = { ch with
      link := { ch.link with state := st, cause := cause, answerTimer := none }
      probe := none
      tx := ch.emptyTx.tx
      latches := ch.latches ||| BitVec.twoPow 4 0 } := by
  rw [Channel.afterGivingUp, Channel.emptyTx_eq]
  exact Channel.moveToWith_of_ne _ cause h

/-! ### Entry into OPEN and peer restart (05 R74, R82) -/

/-- The totals of a channel that starts from zero and is granted the room there is (06 R96, R105). -/
def Channel.freshCredits : Credits :=
  { Credits.zero with
    wordGranted := BitVec.ofNat 5 (min (ch.rxRegion.capacity - ch.rx.held) 31)
    msgGranted := BitVec.ofNat 5 (16 - ch.rx.records.length) }

/-- A grant from zero totals. -/
theorem Channel.grant_of_zero (hconnected : ch.creditConnected = true) (hzero : ch.credits = Credits.zero) :
    ch.grant = { ch with
      credits := ch.freshCredits
      wordMark := if ch.rx.held < ch.rxRegion.capacity then Mark.raised else ch.wordMark
      msgMark := if ch.rx.records.length < 16 then Mark.raised else ch.msgMark } := by
  have hwords : ch.wordGrant = min (ch.rxRegion.capacity - ch.rx.held) 31 := by
    rw [Channel.wordGrant, hzero]
    rfl
  have hmsgs : ch.msgGrant = 16 - ch.rx.records.length := by
    rw [Channel.msgGrant, hzero]
    rfl
  have hroom : 0 < min (ch.rxRegion.capacity - ch.rx.held) 31 ↔ ch.rx.held < ch.rxRegion.capacity := by omega
  have hrecords : 0 < 16 - ch.rx.records.length ↔ ch.rx.records.length < 16 := by omega
  rw [Channel.grant, if_pos hconnected, hwords, hmsgs]
  simp only [hroom, hrecords]
  simp [Channel.freshCredits, hzero, Credits.zero]

/-- The channel after its entry into OPEN from another state, by the mode. -/
theorem Channel.afterEntry_stream (hmode : ch.config.mode = .stream) (h : ch.link.state ≠ .opened) :
    ch.afterEntry = { ch with
      link := { ch.link with state := .opened, answerTimer := none }
      latches := ch.latches ||| BitVec.twoPow 4 0 } := by
  simp only [Channel.afterEntry, hmode]
  exact Channel.moveTo_of_ne _ h

theorem Channel.afterEntry_credit (hmode : ch.config.mode = .credit) (h : ch.link.state ≠ .opened) :
    ch.afterEntry = { ch with
      link := { ch.link with state := .opened, answerTimer := none }
      latches := ch.latches ||| BitVec.twoPow 4 0
      probe := some 0
      wordMark := Mark.raised
      msgMark := Mark.raised
      rx := { ch.rx with discard := false }
      credits := ch.freshCredits } := by
  have hmoved : ch.stopAnswer.moveTo .opened = { ch with
      link := { ch.link with state := .opened, answerTimer := none }
      latches := ch.latches ||| BitVec.twoPow 4 0 } := Channel.moveTo_of_ne _ h
  have hgrant := Channel.grant_of_zero
    { ch with
      link := { ch.link with state := .opened, answerTimer := none }
      latches := ch.latches ||| BitVec.twoPow 4 0
      probe := some 0
      wordMark := Mark.raised
      msgMark := Mark.raised
      rx := { ch.rx with discard := false }
      credits := Credits.zero } (by simp [Channel.creditConnected, hmode, LinkState.connected]) rfl
  rw [ite_self, ite_self] at hgrant
  simp only [Channel.afterEntry, hmode]
  rw [hmoved]
  exact hgrant

/-- The channel after a peer restart: the sending side flushed, the open record aborted, a fresh grant. -/
theorem Channel.afterRestart_eq (hmode : ch.config.mode = .credit) (hst : ch.link.state = .opened) :
    ch.afterRestart = { ch with
      probe := some 0
      tx := ch.emptyTx.tx
      rx := { ch.rxAbort.rx with discard := false }
      credits := ch.freshCredits
      wordMark := if ch.rx.held < ch.rxRegion.capacity then Mark.raised else Mark.clear
      msgMark := if ch.rx.records.length < 16 then Mark.raised else Mark.clear
      latches := ch.rxAbort.latches } := by
  obtain ⟨hheld, hlength, -, -⟩ := ch.rxAbort_rx
  have hfresh : ∀ probe, ({ ch with
      tx := ch.emptyTx.tx, probe := probe, rx := { ch.rxAbort.rx with discard := false }, credits := Credits.zero,
      wordMark := Mark.clear, msgMark := Mark.clear, latches := ch.rxAbort.latches } : Channel).grant = { ch with
      tx := ch.emptyTx.tx, probe := probe, rx := { ch.rxAbort.rx with discard := false }, credits := ch.freshCredits,
      wordMark := if ch.rx.held < ch.rxRegion.capacity then Mark.raised else Mark.clear
      msgMark := if ch.rx.records.length < 16 then Mark.raised else Mark.clear
      latches := ch.rxAbort.latches } := by
    intro probe
    rw [Channel.grant_of_zero _ (by simp [Channel.creditConnected, hmode, hst, LinkState.connected]) rfl,
      ← hheld, ← hlength]
    simp only [Channel.freshCredits, ← hheld, ← hlength]
    rfl
  have hcleared : ch.emptyTx.rxAbort.zeroCredits.clearMarks = { ch with
      tx := ch.emptyTx.tx, probe := ch.emptyTx.probe.map fun _ => 0
      rx := { ch.rxAbort.rx with discard := false }, credits := Credits.zero
      wordMark := Mark.clear, msgMark := Mark.clear, latches := ch.rxAbort.latches } := by
    rw [ch.rxAbort_emptyTx]
    rfl
  rw [Channel.afterRestart, hcleared, hfresh]

end

/-! ### The statements on them -/

/-- Settles O27: the clear-down as one change of the queues and the channel, then the channel field by field. -/
theorem clearDownEmptiesTheChannel : Obligations.ClearDownEmptiesTheChannel := by
  unfold Obligations.ClearDownEmptiesTheChannel
  rintro s c cause ch rfl hst
  refine ⟨(s.chan c).afterClearDown cause, s.closeConnected_eq c cause, ?_⟩
  rw [Channel.afterClearDown_eq _ cause hst]
  refine ⟨rfl, rfl, rfl, rfl, rfl, rfl, rfl, rfl, fun hmode => ⟨if_pos hmode, Channel.emptyTx_tx_credit _ hmode⟩,
    fun hmode => ⟨if_neg (by rw [hmode]; decide), Channel.emptyTx_tx_stream _ hmode⟩, rfl,
    (s.chan c).rxAbort_rx.2.2.1, fun hopen => ?_, fun r hopen => ?_⟩
  · rw [Channel.rxAbort_none _ hopen]
    exact ⟨rfl, rfl⟩
  · rw [Channel.rxAbort_some _ hopen]
    exact ⟨rfl, rfl⟩

/-- Settles O26: entry into OPEN by the mode, and the peer restart as one change of the queues and the channel. -/
theorem newEpochStartsFromZero : Obligations.NewEpochStartsFromZero := by
  unfold Obligations.NewEpochStartsFromZero
  refine ⟨?_, ?_⟩
  · rintro s c ch rfl hst
    have hqueue : s.withdraw c (fun _ => true) = { s with lnk := { s.lnk with
        queue := s.lnk.queue.filter (fun e => !e.isFor c .request) } } := by
      simp [State.withdraw]
    refine ⟨fun hmode => ?_, fun hmode => ?_⟩
    · rw [State.enterOpen_eq, hqueue]
      exact congrArg (State.setChan _ c) (Channel.afterEntry_stream _ hmode hst)
    · rw [State.enterOpen_eq, hqueue]
      exact congrArg (State.setChan _ c) (Channel.afterEntry_credit _ hmode hst)
  · rintro s c ch rfl hmode hst
    obtain ⟨hheld, hlength, hfree, hopen⟩ := (s.chan c).rxAbort_rx
    refine ⟨(s.chan c).afterRestart, ?_, ?_⟩
    · rw [State.peerRestart_eq_modChan, Channel.flushEntries, if_pos hmode]
      rfl
    · rw [Channel.afterRestart_eq _ hmode hst]
      refine ⟨rfl, rfl, rfl, rfl, rfl, rfl, Channel.emptyTx_tx_credit _ hmode, rfl, hopen, hheld, hlength, hfree,
        fun hnone => ?_, fun r hsome => ?_, rfl, ?_, ?_, (s.chan c).rxAbort_latches⟩
      · rw [Channel.rxAbort_none _ hnone]
      · rw [Channel.rxAbort_some _ hsome]
      · dsimp only
        split <;> simp_all [Mark.raised, Mark.clear]
      · dsimp only
        split <;> simp_all [Mark.raised, Mark.clear]

end Sys2Proof.Machine
end

section
/-! SUPPORT. OPEN, LISTEN, CLOSE, RESET and FLUSH by link state and mode (05 R75 to R79). -/

namespace Sys2Proof.Machine

-- One theorem after another, as in the tests: many at once ask for more threads than there are.
set_option Elab.async false

/-- The outcome of a channel command that leads to a state known otherwise. -/
theorem finishChannel_of_eq {t u : State} {r : CmdResult} (h : t = u) :
    finishChannel t r = .next (u.setChannelResult r).evaluate := h ▸ rfl

/-! ### Moves of the part, field by field -/

section
variable (s : State) (c : Chan)

/-- A credit channel starts to open (05 R75). -/
theorem State.startOpening_eq (h : (s.chan c).link.state ≠ .opening) : s.startOpening c =
    ({ s with lnk := { s.lnk with queue := enqueue s.lnk.queue ⟨c, .request, .open_, (s.chan c).config.peerStation,
        (s.chan c).config.peerChannel, false⟩ } } : State).setChan c
      { s.chan c with
        link := { (s.chan c).link with
          state := .opening, answerTimer := some (4 * s.lnk.answerTimeout), retriesLeft := s.lnk.retryCount }
        latches := (s.chan c).latches ||| BitVec.twoPow 4 0 } :=
  congrArg (State.setChan (s.queueRequest c .open_) c) (Channel.moveTo_of_ne ((s.chan c).loadAnswer s.lnk) h)

/-- A credit channel with an empty list leaves DRAIN for CLOSEWAIT (05 R88). -/
theorem State.completeDrain_credit (hmode : (s.chan c).config.mode = .credit) (hst : (s.chan c).link.state = .drain) :
    s.completeDrain c =
      ({ s with lnk := { s.lnk with queue := enqueue s.lnk.queue ⟨c, .request, .close, (s.chan c).config.peerStation,
          (s.chan c).config.peerChannel, false⟩ } } : State).setChan c
        { s.chan c with
          link := { (s.chan c).link with
            state := .closeWait, answerTimer := some (4 * s.lnk.answerTimeout), retriesLeft := s.lnk.retryCount }
          latches := (s.chan c).latches ||| BitVec.twoPow 4 0 } := by
  have hne : ((s.chan c).loadAnswer s.lnk).link.state ≠ .closeWait := by
    rw [show ((s.chan c).loadAnswer s.lnk).link.state = (s.chan c).link.state from rfl, hst]
    decide
  simp only [State.completeDrain, hmode, hst]
  exact congrArg (State.setChan (s.queueRequest c .close) c) (Channel.moveTo_of_ne _ hne)

/-- A credit channel with an empty list leaves YIELD for CLOSED (05 R89). -/
theorem State.completeDrain_yield (hmode : (s.chan c).config.mode = .credit) (hst : (s.chan c).link.state = .yield) :
    s.completeDrain c = (s.replyPeer c .closeAck).closeConnected c .closed := by
  simp only [State.completeDrain, hmode, hst]

/-- A stream channel leaves DRAIN for CLOSED (05 R90). -/
theorem State.completeDrain_stream (hmode : (s.chan c).config.mode = .stream) (hst : (s.chan c).link.state = .drain) :
    s.completeDrain c = s.closeConnected c .closed := by
  simp only [State.completeDrain, hmode, hst]

end

/-! ### OPEN and LISTEN (05 R75, R76) -/

section
variable {s : State} (hlive : s.resetPin = false)
include hlive

theorem exec_chanOpen_closed_credit (hst : (s.chan s.host.selected).link.state = .closed)
    (hmode : (s.chan s.host.selected).config.mode = .credit) : exec .chanOpen s =
      if (!(s.chan s.host.selected).rx.records.isEmpty || decide (0 < (s.chan s.host.selected).tx.composing)) = true then
        finishChannel s .wrongState
      else if (!s.regionsValid s.host.selected) = true then finishChannel s .badConfig
      else finishChannel (s.startOpening s.host.selected) .done := by
  refine (whenLive_live _ hlive).trans ?_
  simp only [hst, hmode]

theorem exec_chanOpen_closed_stream (hst : (s.chan s.host.selected).link.state = .closed)
    (hmode : (s.chan s.host.selected).config.mode = .stream) : exec .chanOpen s =
      if (!(s.chan s.host.selected).rx.records.isEmpty || !(s.chan s.host.selected).tx.fifo.isEmpty) = true then
        finishChannel s .wrongState
      else if (!s.regionsValid s.host.selected) = true then finishChannel s .badConfig
      else finishChannel (s.enterOpen s.host.selected) .done := by
  refine (whenLive_live _ hlive).trans ?_
  simp only [hst, hmode]

theorem exec_chanOpen_listen (hst : (s.chan s.host.selected).link.state = .listen) : exec .chanOpen s =
      if (!s.regionsValid s.host.selected) = true then finishChannel s .badConfig
      else finishChannel (s.startOpening s.host.selected) .done := by
  refine (whenLive_live _ hlive).trans ?_
  simp only [hst]

theorem exec_chanOpen_elsewhere (hclosed : (s.chan s.host.selected).link.state ≠ .closed)
    (hlisten : (s.chan s.host.selected).link.state ≠ .listen) : exec .chanOpen s = finishChannel s .wrongState := by
  refine (whenLive_live _ hlive).trans ?_
  split
  case h_1 hst _ | h_2 hst _ => exact absurd hst hclosed
  case h_3 hst => exact absurd hst hlisten
  case h_4 => rfl

theorem exec_chanListen_closed (hst : (s.chan s.host.selected).link.state = .closed) : exec .chanListen s =
      if (s.chan s.host.selected).config.mode = .stream then finishChannel s .badConfig
      else if (!(s.chan s.host.selected).rx.records.isEmpty ||
          decide (0 < (s.chan s.host.selected).tx.composing)) = true then finishChannel s .wrongState
      else if (!s.regionsValid s.host.selected) = true then finishChannel s .badConfig
      else finishChannel (s.modChan s.host.selected (fun ch => ch.moveTo .listen)) .done :=
  (whenLive_live _ hlive).trans (if_pos hst)

theorem exec_chanListen_elsewhere (hst : (s.chan s.host.selected).link.state ≠ .closed) :
    exec .chanListen s = finishChannel s .wrongState :=
  (whenLive_live _ hlive).trans (if_neg hst)

end

/-- Settles O35: by link state and mode, the tests in their order. -/
theorem openAndListenLeaveClosed : Obligations.OpenAndListenLeaveClosed := by
  unfold Obligations.OpenAndListenLeaveClosed
  rintro s ch hlive rfl
  have hstart (h : (s.chan s.host.selected).link.state ≠ .opening) :=
    finishChannel_of_eq (r := .done) (s.startOpening_eq s.host.selected h)
  refine ⟨fun hst hmode => ⟨fun hheld => ?_, fun hrecords hcomposing hvalid => ?_,
      fun hrecords hcomposing hvalid => ?_⟩,
    fun hst hmode => ⟨?_, fun hheld => ?_, fun hrecords hfifo hvalid => ?_, fun hrecords hfifo hvalid => ?_⟩,
    fun hst hvalid => ?_, fun hfrom hvalid => ?_, fun hst => exec_chanListen_elsewhere hlive hst,
    fun hclosed hlisten => exec_chanOpen_elsewhere hlive hclosed hlisten⟩
  · rw [exec_chanOpen_closed_credit hlive hst hmode, exec_chanListen_closed hlive hst]
    simp_all [finishChannel, finish]
  · rw [exec_chanOpen_closed_credit hlive hst hmode, exec_chanListen_closed hlive hst]
    simp [hrecords, hcomposing, hvalid, hmode, finishChannel, finish]
  · have hmoved := Channel.moveTo_of_ne (s.chan s.host.selected) (st := .listen) (by rw [hst]; decide)
    rw [exec_chanListen_closed hlive hst]
    simp [hrecords, hcomposing, hvalid, hmode, finishChannel, finish, State.modChan, hmoved]
  · rw [exec_chanListen_closed hlive hst]
    exact if_pos hmode
  · rw [exec_chanOpen_closed_stream hlive hst hmode]
    exact if_pos (by simpa using hheld)
  · rw [exec_chanOpen_closed_stream hlive hst hmode]
    simp [hrecords, hfifo, hvalid, finishChannel, finish]
  · rw [exec_chanOpen_closed_stream hlive hst hmode]
    simp [hrecords, hfifo, hvalid, finishChannel, finish]
  · rw [exec_chanOpen_listen hlive hst]
    exact if_pos (by simp [hvalid])
  · rcases hfrom with hst | ⟨hst, hmode, hrecords, hcomposing⟩
    · rw [exec_chanOpen_listen hlive hst, if_neg (by simp [hvalid])]
      exact hstart (by rw [hst]; decide)
    · rw [exec_chanOpen_closed_credit hlive hst hmode, if_neg (by simp [hrecords, hcomposing]),
        if_neg (by simp [hvalid])]
      exact hstart (by rw [hst]; decide)

/-! ### CLOSE (05 R77) -/

section
variable (s : State) (c : Chan)

/-- CLOSE of a credit channel with messages listed: DRAIN without its composing message. -/
theorem State.closeCredit_listed (hst : (s.chan c).link.state = .opened) (hlisted : (s.chan c).tx.messages ≠ []) :
    s.closeCredit c = s.setChan c { s.chan c with
      link := { (s.chan c).link with state := .drain }
      tx := { (s.chan c).tx with composing := 0, spoiled := false }
      latches := (s.chan c).latches ||| BitVec.twoPow 4 0 } := by
  have hmoved := Channel.moveTo_of_ne (s.chan c).dropComposing (st := .drain)
    (show (s.chan c).link.state ≠ .drain by rw [hst]; decide)
  unfold State.closeCredit
  rw [State.modChan, hmoved]
  exact if_neg (by simpa [Channel.dropComposing, TxSide.discardComposing] using hlisted)

/-- CLOSE of a credit channel with an empty list: through DRAIN to CLOSEWAIT at once. -/
theorem State.closeCredit_empty (hst : (s.chan c).link.state = .opened) (hmode : (s.chan c).config.mode = .credit)
    (hempty : (s.chan c).tx.messages = []) : s.closeCredit c =
      ({ s with lnk := { s.lnk with queue := enqueue s.lnk.queue ⟨c, .request, .close, (s.chan c).config.peerStation,
          (s.chan c).config.peerChannel, false⟩ } } : State).setChan c
        { s.chan c with
          link := { (s.chan c).link with
            state := .closeWait, answerTimer := some (4 * s.lnk.answerTimeout), retriesLeft := s.lnk.retryCount }
          tx := { (s.chan c).tx with composing := 0, spoiled := false }
          latches := (s.chan c).latches ||| BitVec.twoPow 4 0 } := by
  have hmoved := Channel.moveTo_of_ne (s.chan c).dropComposing (st := .drain)
    (show (s.chan c).link.state ≠ .drain by rw [hst]; decide)
  unfold State.closeCredit
  rw [State.modChan, hmoved]
  refine (if_pos (by simp [Channel.dropComposing, TxSide.discardComposing, hempty])).trans ?_
  rw [State.completeDrain_credit _ c (by rw [State.chan_setChan_same]; exact hmode) (by rw [State.chan_setChan_same])]
  simp [State.setChan, Channel.dropComposing, TxSide.discardComposing, BitVec.or_assoc, State.chan]

/-- CLOSE of a stream channel: the open message ended as by POST, DRAIN, and the drain completion at once when nothing is
left to send. -/
theorem State.closeStream_eq (hst : (s.chan c).link.state = .opened) (hmode : (s.chan c).config.mode = .stream)
    {tx : TxSide} (htx : tx = if (s.chan c).tx.openMessage then (s.chan c).tx.endOpenMessage else (s.chan c).tx)
    {u : State} (hu : u = s.setChan c { s.chan c with
      link := { (s.chan c).link with state := .drain }, tx := tx, latches := (s.chan c).latches ||| BitVec.twoPow 4 0 }) :
    s.closeStream c = if (tx.fifo.isEmpty && !tx.inProgress) = true then u.closeConnected c .closed else u := by
  have hended : (if (s.chan c).tx.openMessage then { s.chan c with tx := (s.chan c).tx.endOpenMessage } else s.chan c) =
      { s.chan c with tx := tx } := by
    rw [htx]
    split <;> rfl
  have hmoved : s.modChan c (fun ch =>
      Channel.moveTo (if ch.tx.openMessage then { ch with tx := ch.tx.endOpenMessage } else ch) .drain) = u := by
    rw [hu, State.modChan, hended]
    exact congrArg (s.setChan c) (Channel.moveTo_of_ne _ (show (s.chan c).link.state ≠ .drain by rw [hst]; decide))
  have hchan : u.chan c = { s.chan c with
      link := { (s.chan c).link with state := .drain }
      tx := tx
      latches := (s.chan c).latches ||| BitVec.twoPow 4 0 } := by
    rw [hu, State.chan_setChan_same]
  have hdrain : u.completeDrain c = u.closeConnected c .closed :=
    u.completeDrain_stream c (by rw [hchan]; exact hmode) (by rw [hchan])
  unfold State.closeStream
  dsimp only
  rw [hmoved, hdrain, hchan]

end

section
variable {s : State} {c : Chan} {tx : TxSide} {es : List CqEntry}

/-- CLOSE from LISTEN or OPENING: CLOSED without its timers and its Open request, the list flushed (05 R77). -/
theorem State.closeUnopened_flushed (h : (s.chan c).link.state ≠ .closed)
    (hes : es = (s.chan c).flushEntries c .flushed s.hwi.frame) (htx : tx = (s.chan c).emptyTx.tx) :
    s.closeUnopened c = ({ s with
        cq := { s.cq with entries := s.cq.entries ++ es }
        lnk := { s.lnk with
          queue := s.lnk.queue.filter (fun e => !(e.isFor c .request && e.opcode == .open_)) } } : State).setChan c
      { s.chan c with
        link := { (s.chan c).link with state := .closed, cause := .closed, answerTimer := none }
        probe := none
        tx := tx
        latches := (s.chan c).latches ||| BitVec.twoPow 4 0 } := by
  rw [State.closeUnopened_eq, ← hes, htx]
  exact congrArg (State.setChan _ c) ((s.chan c).afterGivingUp_eq .closed h)

/-- RESET from LISTEN or OPENING: CLOSED without its timers, the list flushed (05 R78). -/
theorem State.closeUnconnected_flushed (cause : Cause) (h : (s.chan c).link.state ≠ .closed)
    (hes : es = (s.chan c).flushEntries c .flushed s.hwi.frame) (htx : tx = (s.chan c).emptyTx.tx) :
    s.closeUnconnected c cause = ({ s with cq := { s.cq with entries := s.cq.entries ++ es } } : State).setChan c
      { s.chan c with
        link := { (s.chan c).link with state := .closed, cause := cause, answerTimer := none }
        probe := none
        tx := tx
        latches := (s.chan c).latches ||| BitVec.twoPow 4 0 } := by
  rw [State.closeUnconnected_eq, ← hes, htx]
  exact congrArg (State.setChan _ c) ((s.chan c).afterGivingUp_eq cause h)

/-- A failed open: FAULT without its timers and its Open request, the list flushed (05 R93). -/
theorem State.enterFault_flushed (cause : Cause) (h : (s.chan c).link.state ≠ .fault)
    (hes : es = (s.chan c).flushEntries c .flushed s.hwi.frame) (htx : tx = (s.chan c).emptyTx.tx) :
    s.enterFault c cause = ({ s with
        cq := { s.cq with entries := s.cq.entries ++ es }
        lnk := { s.lnk with
          queue := s.lnk.queue.filter (fun e => !(e.isFor c .request && e.opcode == .open_)) } } : State).setChan c
      { s.chan c with
        link := { (s.chan c).link with state := .fault, cause := cause, answerTimer := none }
        probe := none
        tx := tx
        latches := (s.chan c).latches ||| BitVec.twoPow 4 0 } := by
  rw [State.enterFault_eq, ← hes, htx]
  exact congrArg (State.setChan _ c) ((s.chan c).afterGivingUp_eq cause h)

end

section
variable {s : State} (hlive : s.resetPin = false)
include hlive

theorem exec_chanClose_credit (hst : (s.chan s.host.selected).link.state = .opened)
    (hmode : (s.chan s.host.selected).config.mode = .credit) :
    exec .chanClose s = finishChannel (s.closeCredit s.host.selected) .done := by
  refine (whenLive_live _ hlive).trans ?_
  simp only [hst, hmode]

theorem exec_chanClose_stream (hst : (s.chan s.host.selected).link.state = .opened)
    (hmode : (s.chan s.host.selected).config.mode = .stream) :
    exec .chanClose s = finishChannel (s.closeStream s.host.selected) .done := by
  refine (whenLive_live _ hlive).trans ?_
  simp only [hst, hmode]

theorem exec_chanClose_unopened (h : (s.chan s.host.selected).link.state = .listen ∨
    (s.chan s.host.selected).link.state = .opening) :
    exec .chanClose s = finishChannel (s.closeUnopened s.host.selected) .done := by
  refine (whenLive_live _ hlive).trans ?_
  rcases h with hst | hst <;> simp only [hst]

theorem exec_chanClose_elsewhere (h : (s.chan s.host.selected).link.state = .drain ∨
    (s.chan s.host.selected).link.state = .closeWait ∨ (s.chan s.host.selected).link.state = .yield ∨
    (s.chan s.host.selected).link.state = .closed ∨ (s.chan s.host.selected).link.state = .fault) :
    exec .chanClose s = finishChannel s .wrongState := by
  refine (whenLive_live _ hlive).trans ?_
  rcases h with hst | hst | hst | hst | hst <;> simp only [hst]

end

/-- Settles O36: by link state, mode and what is left to send. -/
theorem closeDrainsOrCloses : Obligations.CloseDrainsOrCloses := by
  unfold Obligations.CloseDrainsOrCloses
  rintro s ch hlive rfl
  refine ⟨fun hst hmode hlisted => ?_, fun hst hmode hempty => ?_, fun hst hmode tx htx u hu => ?_,
    fun hst tx es hcredit hstream => ?_, exec_chanClose_elsewhere hlive⟩
  · rw [exec_chanClose_credit hlive hst hmode]
    exact finishChannel_of_eq (s.closeCredit_listed _ hst hlisted)
  · rw [exec_chanClose_credit hlive hst hmode]
    exact finishChannel_of_eq (s.closeCredit_empty _ hst hmode hempty)
  · have hclose := s.closeStream_eq _ hst hmode htx hu
    rw [exec_chanClose_stream hlive hst hmode]
    refine ⟨fun hleft => finishChannel_of_eq (hclose.trans (if_neg ?_)),
      fun hfifo hprogress => finishChannel_of_eq (hclose.trans (if_pos ?_))⟩
    · simpa [← imp_iff_not_or] using hleft
    · simp [hfifo, hprogress]
  · obtain ⟨hes, htx⟩ := Channel.flushed_by_mode _ hcredit hstream
    have hne : (s.chan s.host.selected).link.state ≠ .closed := by
      rcases hst with hst | hst <;> rw [hst] <;> decide
    rw [exec_chanClose_unopened hlive hst]
    exact finishChannel_of_eq (State.closeUnopened_flushed hne hes htx)

/-! ### RESET (05 R78) -/

section
variable {s : State} (hlive : s.resetPin = false)
include hlive

theorem exec_chanReset_connected (h : (s.chan s.host.selected).link.state.connected = true) :
    exec .chanReset s = finishChannel (s.resetConnected s.host.selected) .done := by
  refine (whenLive_live _ hlive).trans ?_
  cases hst : (s.chan s.host.selected).link.state
  case opened | drain | closeWait | yield => rfl
  all_goals
    rw [hst] at h
    cases h

theorem exec_chanReset_listen (hst : (s.chan s.host.selected).link.state = .listen) :
    exec .chanReset s = finishChannel (s.closeUnconnected s.host.selected .hostReset) .done := by
  refine (whenLive_live _ hlive).trans ?_
  simp only [hst]

theorem exec_chanReset_opening (hst : (s.chan s.host.selected).link.state = .opening) : exec .chanReset s =
    finishChannel ((s.queueRequest s.host.selected .reset).closeUnconnected s.host.selected .hostReset) .done := by
  refine (whenLive_live _ hlive).trans ?_
  simp only [hst]

theorem exec_chanReset_nothing (h : (s.chan s.host.selected).link.state = .closed ∨
    (s.chan s.host.selected).link.state = .fault) : exec .chanReset s = finishChannel s .nothing := by
  refine (whenLive_live _ hlive).trans ?_
  rcases h with hst | hst <;> simp only [hst]

end

/-- Settles O37: by link state and mode. -/
theorem resetAbandonsTheChannel : Obligations.ResetAbandonsTheChannel := by
  unfold Obligations.ResetAbandonsTheChannel
  rintro s ch hlive rfl
  refine ⟨exec_chanReset_nothing hlive, fun hst hmode => ?_, fun hst hmode => ?_, fun hst tx es hcredit hstream => ?_⟩
  · rw [exec_chanReset_connected hlive hst]
    exact finishChannel_of_eq (by simp only [State.resetConnected, hmode])
  · rw [exec_chanReset_connected hlive hst]
    exact finishChannel_of_eq (by simp only [State.resetConnected, hmode])
  · obtain ⟨hes, htx⟩ := Channel.flushed_by_mode _ hcredit hstream
    rcases hst with hst | hst
    · rw [exec_chanReset_listen hlive hst, if_neg (by rw [hst]; decide)]
      exact finishChannel_of_eq (State.closeUnconnected_flushed _ (by rw [hst]; decide) hes htx)
    · rw [exec_chanReset_opening hlive hst, if_pos hst]
      exact finishChannel_of_eq (State.closeUnconnected_flushed (s := s.queueRequest s.host.selected .reset) _
        (show (s.chan s.host.selected).link.state ≠ .closed by rw [hst]; decide) hes htx)

/-! ### FLUSH (05 R79) -/

/-- The channel after a FLUSH: no record, no composing message, no FIFO word and no latch of before; a move from FAULT is
latched anew. -/
theorem Channel.flush_eq (ch : Channel) (h : ch.link.state = .closed ∨ ch.link.state = .fault) : ch.flush = { ch with
    link := { ch.link with state := .closed }
    rx := { ch.rx with free := 0, records := [] }
    tx := { ch.tx with
      composing := 0
      spoiled := false
      fifo := []
      free := if 0 < ch.tx.held ∧ (ch.tx.messages.map (·.length)).sum = 0 then 0 else ch.tx.free }
    latches := if ch.link.state = .fault then BitVec.twoPow 4 0 else 0 } := by
  have hside : ch.emptyRx.flushTxSide = { ch with
      rx := { ch.rx with free := 0, records := [] }
      tx := { ch.tx with
        composing := 0
        spoiled := false
        fifo := []
        free := if 0 < ch.tx.held ∧ (ch.tx.messages.map (·.length)).sum = 0 then 0 else ch.tx.free } } := rfl
  rw [Channel.flush, hside]
  rcases h with hst | hst
  · have hlink : ch.link = { ch.link with state := .closed } := by rw [← hst]
    simp [Channel.moveTo, hst, ← hlink]
  · simp [Channel.moveTo, Channel.raise, ChEvent.position, hst]

/-- Settles O38: by link state. -/
theorem flushEmptiesClosedChannels : Obligations.FlushEmptiesClosedChannels := by
  unfold Obligations.FlushEmptiesClosedChannels
  rintro s ch hlive rfl
  refine ⟨fun hst => ?_, fun hclosed hfault => ?_⟩
  · rw [← Channel.flush_eq _ hst]
    exact (whenLive_live _ hlive).trans (if_pos hst)
  · exact (whenLive_live _ hlive).trans (if_neg fun h => h.elim hclosed hfault)

end Sys2Proof.Machine
end

section
/-! SUPPORT. The expiries of the timers and the drain completions as rows of their own (04 R65, 05 R88 to R93, 06 R108). -/

namespace Sys2Proof.Machine

-- One theorem after another, as in the tests: many at once ask for more threads than there are.
set_option Elab.async false

section
variable {s : State} (hlive : s.resetPin = false)
include hlive

/-! ### The rows (log entry 8) -/

theorem exec_answerTimerExpiry (c : Chan) : exec (.answerTimerExpiry c) s = .next (s.takeAnswerExpiry c).evaluate :=
  whenLive_live _ hlive

theorem exec_probeTimerExpiry (c : Chan) : exec (.probeTimerExpiry c) s = .next (s.takeProbeExpiry c).evaluate :=
  whenLive_live _ hlive

theorem exec_refreshTimerExpiry : exec .refreshTimerExpiry s = .next s.takeRefresh.evaluate := whenLive_live _ hlive

theorem exec_drainCompletion (c : Chan) : exec (.drainCompletion c) s = .next (s.takeDrain c).evaluate :=
  whenLive_live _ hlive

end

/-! ### The answer timer (05 R92, R93) -/

/-- The answer timer is due when it has run out. -/
theorem Channel.answerDue_iff (ch : Channel) : ch.answerDue = true ↔ ch.link.answerTimer = some 0 := by
  simp [Channel.answerDue]

section
variable (s : State) (c : Chan)

theorem State.takeAnswerExpiry_idle (h : (s.chan c).link.answerTimer ≠ some 0) : s.takeAnswerExpiry c = s :=
  s.takeAnswerExpiry_of_not_due c (Bool.eq_false_of_not_eq_true fun hdue => h ((s.chan c).answerDue_iff.mp hdue))

variable (hdue : (s.chan c).link.answerTimer = some 0)
include hdue

theorem State.takeAnswerExpiry_due : s.takeAnswerExpiry c =
    if (s.chan c).link.state = .opening ∨ (s.chan c).link.state = .closeWait then
      if 0 < (s.chan c).link.retriesLeft then
        (s.queueRequest c (s.chan c).retryOpcode).modChan c (fun ch =>
          { ch with link := { ch.link with answerTimer := some (4 * s.lnk.answerTimeout),
                                           retriesLeft := ch.link.retriesLeft - 1 } })
      else if (s.chan c).link.state = .opening then s.enterFault c .noAnswer
      else s.closeConnected c .closeTimeout
    else s.modChan c Channel.stopAnswer :=
  if_pos ((s.chan c).answerDue_iff.mpr hdue)

/-- With retries left the request is queued again and the count starts anew. -/
theorem State.takeAnswerExpiry_retry (hst : (s.chan c).link.state = .opening ∨ (s.chan c).link.state = .closeWait)
    (hleft : 0 < (s.chan c).link.retriesLeft) : s.takeAnswerExpiry c =
      ({ s with lnk := { s.lnk with
          queue := enqueue s.lnk.queue ⟨c, .request, if (s.chan c).link.state = .opening then .open_ else .close,
            (s.chan c).config.peerStation, (s.chan c).config.peerChannel, false⟩ } } : State).setChan c
        { s.chan c with link := { (s.chan c).link with
          answerTimer := some (4 * s.lnk.answerTimeout), retriesLeft := (s.chan c).link.retriesLeft - 1 } } := by
  rw [s.takeAnswerExpiry_due c hdue, if_pos hst, if_pos hleft]
  rfl

theorem State.takeAnswerExpiry_opening (hst : (s.chan c).link.state = .opening)
    (hleft : (s.chan c).link.retriesLeft = 0) : s.takeAnswerExpiry c = s.enterFault c .noAnswer := by
  rw [s.takeAnswerExpiry_due c hdue, if_pos (.inl hst), if_neg (by omega), if_pos hst]

theorem State.takeAnswerExpiry_closeWait (hst : (s.chan c).link.state = .closeWait)
    (hleft : (s.chan c).link.retriesLeft = 0) : s.takeAnswerExpiry c = s.closeConnected c .closeTimeout := by
  rw [s.takeAnswerExpiry_due c hdue, if_pos (.inr hst), if_neg (by omega), if_neg (by rw [hst]; decide)]

/-- A timer that is due outside OPENING and CLOSEWAIT is stopped (log entry 8). -/
theorem State.takeAnswerExpiry_elsewhere (hopening : (s.chan c).link.state ≠ .opening)
    (hcloseWait : (s.chan c).link.state ≠ .closeWait) :
    s.takeAnswerExpiry c = s.setChan c { s.chan c with link := { (s.chan c).link with answerTimer := none } } := by
  rw [s.takeAnswerExpiry_due c hdue, if_neg fun h => h.elim hopening hcloseWait]
  rfl

end

/-! ### The probe timer and the refresh timer (06 R108, 04 R65) -/

theorem State.takeProbeExpiry_due {s : State} {c : Chan} {n : Nat} (hprobe : (s.chan c).probe = some n)
    (hdelay : s.lnk.probeDelay ≤ n) : s.takeProbeExpiry c =
      ({ s with lnk := { s.lnk with queue := enqueue s.lnk.queue ⟨c, .request, .probe, (s.chan c).config.peerStation,
          (s.chan c).config.peerChannel, false⟩ } } : State).setChan c { s.chan c with probe := some 0 } :=
  if_pos (((s.chan c).probeDue_iff _).mpr ⟨n, hprobe, hdelay⟩)

theorem State.takeProbeExpiry_idle {s : State} {c : Chan}
    (h : (s.chan c).probe = none ∨ ∃ n, (s.chan c).probe = some n ∧ n < s.lnk.probeDelay) : s.takeProbeExpiry c = s := by
  refine s.takeProbeExpiry_of_not_due c (Bool.eq_false_of_not_eq_true fun hdue => ?_)
  obtain ⟨n, hn, hdelay⟩ := ((s.chan c).probeDue_iff _).mp hdue
  rcases h with h | ⟨m, hm, hlt⟩
  · rw [h] at hn
    cases hn
  · rw [hm] at hn
    cases hn
    omega

/-- The refresh timer is due when it runs and its count has reached 16 times the interval. -/
theorem LinkControl.refreshDue_iff (l : LinkControl) :
    l.refreshDue = true ↔ l.refreshInterval ≠ 0 ∧ 16 * l.refreshInterval ≤ l.refreshCount := by
  simp [LinkControl.refreshDue]

theorem State.takeRefresh_due {s : State} (h : s.lnk.refreshDue = true) :
    s.takeRefresh = { s with lnk := { s.lnk with refreshCount := 0 }, chans := s.takeRefresh.chans } ∧
      ∀ c : Chan, s.takeRefresh.chan c =
        if (s.chan c).creditConnected then
          { s.chan c with wordMark := { set := true, chosen := false }, msgMark := { set := true, chosen := false } }
        else s.chan c := by
  have htaken : s.takeRefresh = State.refreshMarks { s with lnk := { s.lnk with refreshCount := 0 } } := if_pos h
  refine ⟨by rw [htaken]; rfl, fun c => ?_⟩
  rw [htaken, State.refreshMarks, State.chan_mapChans]
  rfl

/-- Settles O52: each expiry by whether it is due, and the answer timer's by link state and retries left. -/
theorem timersExpire : Obligations.TimersExpire := by
  unfold Obligations.TimersExpire
  refine ⟨?_, fun s hlive => ⟨?_, fun hdue => ?_, fun hidle => ?_⟩⟩
  · rintro s c ch hlive rfl
    simp only [exec_answerTimerExpiry hlive]
    refine ⟨fun h => ?_, fun hdue hst hleft => ?_, fun hdue hst hleft => ?_,
      fun hdue hst hleft tx es hcredit hstream => ?_, fun hdue hopening hcloseWait => ?_⟩
    · rw [s.takeAnswerExpiry_idle c h]
    · rw [s.takeAnswerExpiry_retry c hdue hst hleft]
    · rw [s.takeAnswerExpiry_closeWait c hdue hst hleft]
    · obtain ⟨hes, htx⟩ := Channel.flushed_by_mode _ hcredit hstream
      rw [s.takeAnswerExpiry_opening c hdue hst hleft,
        State.enterFault_flushed .noAnswer (by rw [hst]; decide) hes htx]
    · rw [s.takeAnswerExpiry_elsewhere c hdue hopening hcloseWait]
  · rintro c ch rfl
    simp only [exec_probeTimerExpiry hlive]
    exact ⟨fun n hprobe hdelay => by rw [State.takeProbeExpiry_due hprobe hdelay],
      fun hidle => by rw [State.takeProbeExpiry_idle hidle]⟩
  · obtain ⟨hframe, hchans⟩ := State.takeRefresh_due (s.lnk.refreshDue_iff.mpr hdue)
    refine ⟨_, exec_refreshTimerExpiry hlive, congrArg State.evaluate hframe, fun c => ?_⟩
    rw [State.chan_evaluate, hchans c]
    exact ⟨fun h => if_pos h, fun h => if_neg (by simp [h])⟩
  · have hnot : s.lnk.refreshDue = false := by
      refine Bool.eq_false_of_not_eq_true fun hdue => ?_
      obtain ⟨hinterval, hcount⟩ := s.lnk.refreshDue_iff.mp hdue
      omega
    rw [exec_refreshTimerExpiry hlive, s.takeRefresh_of_not_due hnot]

/-! ### Drain completions (05 R88 to R90) -/

section
variable (s : State) (c : Chan)

/-- The drain completion of a credit channel is due in DRAIN and YIELD with an empty list. -/
theorem State.drainDue_credit (hmode : (s.chan c).config.mode = .credit) : s.drainDue c = true ↔
    ((s.chan c).link.state = .drain ∨ (s.chan c).link.state = .yield) ∧ (s.chan c).tx.messages = [] := by
  simp [State.drainDue, hmode]

/-- The drain completion of a stream channel is due in DRAIN with nothing held, in progress or on the line. -/
theorem State.drainDue_stream (hmode : (s.chan c).config.mode = .stream) : s.drainDue c = true ↔
    (s.chan c).link.state = .drain ∧ (s.chan c).tx.fifo = [] ∧ (s.chan c).tx.inProgress = false ∧
      ∀ bits, s.hwi.line ≠ some ⟨bits, .streamEnd c⟩ := by
  have hline : s.endOnLine c = false ↔ ∀ bits, s.hwi.line ≠ some ⟨bits, .streamEnd c⟩ := by
    unfold State.endOnLine
    cases hl : s.hwi.line with
    | none => simp
    | some l =>
      obtain ⟨bits, owner⟩ := l
      simp
  simp [State.drainDue, hmode, hline, and_assoc]

end

/-- Settles O53: by mode and link state, due and not due. -/
theorem drainCompletionByState : Obligations.DrainCompletionByState := by
  unfold Obligations.DrainCompletionByState
  rintro s c ch hlive rfl
  have hidle (h : ¬ s.drainDue c = true) : State.evaluate (s.takeDrain c) = s.evaluate :=
    congrArg State.evaluate (s.takeDrain_of_not_due c (Bool.eq_false_of_not_eq_true h))
  have hdue (h : s.drainDue c = true) : s.takeDrain c = s.completeDrain c := if_pos h
  simp only [exec_drainCompletion hlive]
  refine ⟨fun hmode hempty hst => ?_, fun hmode hempty hst => ?_, fun hmode hfifo hprogress hst hline => ?_,
    fun hst => congrArg _ (hidle fun h => ?_), fun hlisted => congrArg _ (hidle fun h => ?_),
    fun hbusy => congrArg _ (hidle fun h => ?_)⟩
  · rw [hdue ((s.drainDue_credit c hmode).mpr ⟨.inl hst, hempty⟩), s.completeDrain_credit c hmode hst]
  · rw [hdue ((s.drainDue_credit c hmode).mpr ⟨.inr hst, hempty⟩), s.completeDrain_yield c hmode hst]
    rfl
  · rw [hdue ((s.drainDue_stream c hmode).mpr ⟨hst, hfifo, hprogress, hline⟩), s.completeDrain_stream c hmode hst]
  · cases hmode : (s.chan c).config.mode with
    | credit => exact ((s.drainDue_credit c hmode).mp h).1.elim hst.1 hst.2
    | stream => exact hst.1 ((s.drainDue_stream c hmode).mp h).1
  · exact hlisted.2 ((s.drainDue_credit c hlisted.1).mp h).2
  · obtain ⟨hmode, hleft⟩ := hbusy
    obtain ⟨hst, hfifo, hprogress, hline⟩ := (s.drainDue_stream c hmode).mp h
    rcases hleft with hheld | hsending | hyield | ⟨bits, hend⟩
    · exact hheld hfifo
    · rw [hprogress] at hsending
      cases hsending
    · rw [hst] at hyield
      cases hyield
    · exact hline bits hend

end Sys2Proof.Machine
end

section
/-! SUPPORT. The receiving side of a channel: which parts of the channel it changes, and what it does to the words held
and to the number of records (06 R95, 08 R128 to R137). -/

namespace Sys2Proof.Machine

-- One theorem after another, as in the tests: many at once ask for more threads than there are.
set_option Elab.async false

/-! ### The lengths stored (08 R128) -/

/-- A change of the newest record that keeps its length keeps the lengths stored. -/
theorem map_length_updateNewest {f : RxRecord → RxRecord} (hf : ∀ r, (f r).length = r.length) (l : List RxRecord) :
    (updateNewest f l).map (·.length) = l.map (·.length) := by
  induction l with
  | nil => rfl
  | cons r l ih =>
    cases l with
    | nil => simp [updateNewest, hf]
    | cons q rest => simpa [updateNewest] using ih

/-- One word more in the newest record is one word more in all. -/
theorem sum_length_updateNewest {f : RxRecord → RxRecord} (hf : ∀ r, (f r).length = r.length + 1)
    {l : List RxRecord} (hl : l ≠ []) : ((updateNewest f l).map (·.length)).sum = (l.map (·.length)).sum + 1 := by
  have hlast := List.getLast?_eq_some_getLast hl
  have hsplit := List.dropLast_append_getLast hl
  rw [updateNewest_eq f hlast]
  conv_rhs => rw [← hsplit]
  simp [hf, Nat.add_assoc]

/-! ### What the receiving side changes -/

/-- From `a` to `b` nothing changed but the receiving side, the counters and the latches. -/
structure Channel.ReceivesOnly (a b : Channel) : Prop where
  config : b.config = a.config := by rfl
  txRegion : b.txRegion = a.txRegion := by rfl
  rxRegion : b.rxRegion = a.rxRegion := by rfl
  link : b.link = a.link := by rfl
  probe : b.probe = a.probe := by rfl
  wordMark : b.wordMark = a.wordMark := by rfl
  msgMark : b.msgMark = a.msgMark := by rfl
  credits : b.credits = a.credits := by rfl
  tx : b.tx = a.tx := by rfl

theorem Channel.ReceivesOnly.trans {a b c : Channel} (h : a.ReceivesOnly b) (k : b.ReceivesOnly c) :
    a.ReceivesOnly c where
  config := k.config.trans h.config
  txRegion := k.txRegion.trans h.txRegion
  rxRegion := k.rxRegion.trans h.rxRegion
  link := k.link.trans h.link
  probe := k.probe.trans h.probe
  wordMark := k.wordMark.trans h.wordMark
  msgMark := k.msgMark.trans h.msgMark
  credits := k.credits.trans h.credits
  tx := k.tx.trans h.tx

/-- A credit channel in a connected state stays one. -/
theorem Channel.ReceivesOnly.creditConnected {a b : Channel} (h : a.ReceivesOnly b) :
    b.creditConnected = a.creditConnected := by
  rw [Channel.creditConnected, h.config, h.link]
  rfl

/-- From `a` to `b` the receiving side took a word, stored it or not, and began `added` records. A word is stored only
where the region has room (08 R136). -/
structure Channel.Receives (a b : Channel) (stored : Bool) (added : Nat) : Prop where
  only : a.ReceivesOnly b
  held : b.rx.held = a.rx.held + stored.toNat
  room : stored = true → a.rx.held < a.rxRegion.capacity
  records : b.rx.records.length = a.rx.records.length + added

namespace Channel.Receives

/-- What leaves the lengths stored as they are. -/
theorem of_lengths {a b : Channel} (lengths : b.rx.records.map (·.length) = a.rx.records.map (·.length) := by rfl)
    (only : a.ReceivesOnly b := by exact {}) : a.Receives b false 0 where
  only := only
  held := by rw [RxSide.held, lengths]; rfl
  room h := by cases h
  records := by simpa using congrArg List.length lengths

theorem same (a : Channel) : a.Receives a false 0 := of_lengths

section
variable {a b c : Channel} {stored : Bool} {added : Nat}

/-- Before the word is taken something happens that neither stores a word nor begins a record. -/
theorem after (h : a.Receives b false 0) (k : b.Receives c stored added) : a.Receives c stored added where
  only := h.only.trans k.only
  held := by rw [k.held, h.held]; rfl
  room hs := by
    have hroom := k.room hs
    rwa [h.held, h.only.rxRegion] at hroom
  records := by rw [k.records, h.records]; rfl

/-- After the word was taken something happens that neither stores a word nor begins a record. -/
theorem andThen (h : a.Receives b stored added) (k : b.Receives c false 0) : a.Receives c stored added where
  only := h.only.trans k.only
  held := by rw [k.held, h.held]; rfl
  room := h.room
  records := by rw [k.records, h.records]; rfl

end

section
variable (ch : Channel)

/-! ### The open record (08 R129, R131) -/

theorem modNewest {f : RxRecord → RxRecord} (hf : ∀ r, (f r).length = r.length := by exact fun _ => rfl) :
    ch.Receives (ch.modNewest f) false 0 := of_lengths (map_length_updateNewest hf _)

theorem closeOpen (mark : RxFlags → RxFlags) (last : Option Word) : ch.Receives (ch.closeOpen mark last) false 0 := by
  unfold Channel.closeOpen
  split
  · exact same ch
  · dsimp only
    split
    · exact of_lengths (map_length_updateNewest (by exact fun _ => rfl) _)
    · exact modNewest ch

theorem closeBroken : ch.Receives ch.closeBroken false 0 := closeOpen ch _ _

theorem rxAbort : ch.Receives ch.rxAbort false 0 := closeOpen ch _ _

theorem damageOpen : ch.Receives ch.damageOpen false 0 := by
  unfold Channel.damageOpen
  split
  · exact same ch
  · exact modNewest ch

/-! ### Assembly (08 section 8.3) -/

/-- A new record joins the list. -/
theorem pushRecord (frame : Word) : ch.Receives (ch.pushRecord frame) false 1 where
  only := {}
  held := by simp [RxSide.held, Channel.pushRecord]
  room h := by cases h
  records := by simp [Channel.pushRecord]

/-- A word is stored in the newest record if there is room, and counted lost or dropped if not (08 R136). -/
theorem storeWord (h : ch.rx.records ≠ []) : ch.Receives ch.storeWord.1 ch.storeWord.2 0 := by
  unfold Channel.storeWord
  split
  case isTrue hroom =>
    exact { only := {}, held := sum_length_updateNewest (fun _ => rfl) h, room := fun _ => hroom,
            records := length_updateNewest _ _ }
  case isFalse =>
    split
    · exact same ch
    · exact of_lengths (map_length_updateNewest (by exact fun _ => rfl) _)

/-- A record is begun and the word stored in it. -/
theorem startRecord (frame : Word) :
    ch.Receives (ch.pushRecord frame).storeWord.1 (ch.pushRecord frame).storeWord.2 1 := by
  have hpush := pushRecord ch frame
  have hstore := storeWord (ch.pushRecord frame) (by simp [Channel.pushRecord])
  refine ⟨hpush.only.trans hstore.only, ?_, fun hs => ?_, ?_⟩
  · rw [hstore.held, hpush.held]; rfl
  · have hroom := hstore.room hs
    rwa [hpush.held] at hroom
  · rw [hstore.records, hpush.records]

/-- A First or an Only begins a record, but for a stream channel whose list is full (08 R132, R133, R137). -/
theorem assembleStart (frame : Word) (isOnly : Bool) :
    ch.Receives (ch.assembleStart frame isOnly).1 (ch.assembleStart frame isOnly).2
      (if ch.config.mode = .stream ∧ 16 ≤ ch.rx.records.length then 0 else 1) := by
  have hclose := closeBroken ch
  have hstart := hclose.after (startRecord ch.closeBroken frame)
  have hlost : (ch.closeBroken.config.mode = .stream ∧ Config.maxRecords ≤ ch.closeBroken.rx.records.length) ↔
      (ch.config.mode = .stream ∧ 16 ≤ ch.rx.records.length) := by
    rw [hclose.only.config, hclose.records]
    rfl
  unfold Channel.assembleStart
  simp only [hlost]
  split
  · exact hclose.andThen .of_lengths
  · split
    · exact hstart.andThen (closeOpen _ (fun f => f) (some frame))
    · exact hstart

/-- A Middle or a Last begins no record (08 R134, R135). -/
theorem assembleRest (frame : Word) (isLast : Bool) :
    ch.Receives (ch.assembleRest frame isLast).1 (ch.assembleRest frame isLast).2 0 := by
  unfold Channel.assembleRest
  split
  case h_1 => exact .of_lengths
  case h_2 r hopen =>
    have hsome : ch.rx.records ≠ [] := fun hnil => by simp [RxSide.openRecord, hnil] at hopen
    have hstore : ∀ p : Channel × Bool, p = (if ch.config.maxLength ≤ r.length then
        (ch.modNewest (fun r => { r with flags := { r.flags with truncated := true } }), false)
        else ch.storeWord) → ch.Receives p.1 p.2 0 := by
      rintro p rfl
      split
      · exact modNewest ch
      · exact storeWord ch hsome
    dsimp only
    split
    · exact (hstore _ rfl).andThen (closeOpen _ (fun f => f) (some frame))
    · exact hstore _ rfl

/-- A data word that reaches record assembly. -/
theorem assemble (frame : Word) (k : Kind) :
    ch.Receives (ch.assemble frame k).1 (ch.assemble frame k).2
      (if k.starts = true then if ch.config.mode = .stream ∧ 16 ≤ ch.rx.records.length then 0 else 1 else 0) := by
  cases k
  case first | only => exact assembleStart ch frame _
  case middle | last => exact assembleRest ch frame _
  all_goals exact same ch

/-- In credit mode each First and each Only begins a record. -/
theorem assemble_credit (frame : Word) (k : Kind) (hmode : ch.config.mode = .credit) :
    ch.Receives (ch.assemble frame k).1 (ch.assemble frame k).2 k.starts.toNat := by
  have h := assemble ch frame k
  rw [hmode] at h
  cases hk : k.starts <;> simpa [hk] using h

/-! ### Credit violations (06 R99) -/

theorem violation (frame : Word) (k : Kind) : ch.Receives (ch.violation frame k) false 0 := by
  have hcount : ch.Receives ((ch.count .creditViolations).raise .rxTrouble) false 0 := .of_lengths
  unfold Channel.violation
  cases k
  case first | only => exact (hcount.andThen (closeBroken _)).andThen .of_lengths
  case last => exact ((hcount.andThen (damageOpen _)).andThen (closeOpen _ _ _)).andThen .of_lengths
  case middle => exact hcount.andThen (damageOpen _)
  all_goals exact hcount

end

end Channel.Receives

end Sys2Proof.Machine
end

section
/-! SUPPORT. The credit account of an arriving word on a credit channel: the count, the grant that follows, the
violation, and that record assembly knows nothing of the credit totals (06 R95 to R101). -/

namespace Sys2Proof.Machine

-- One theorem after another, as in the tests: many at once ask for more threads than there are.
set_option Elab.async false

/-! ### The count and the credit bounds (06 R95, R98) -/

/-- Five-bit totals: one counted takes one from a difference that is not 0. -/
theorem toNat_sub_succ (g c : BitVec 5) (h : (g - c).toNat ≠ 0) : (g - (c + 1)).toNat + 1 = (g - c).toNat := by
  have e : g - (c + 1) = (g - c) - 1 := by
    rw [BitVec.sub_eq_add_neg, BitVec.sub_eq_add_neg, BitVec.sub_eq_add_neg, BitVec.neg_add, BitVec.sub_eq_add_neg,
      BitVec.add_assoc]
  rw [e]
  bv_omega

section
variable (ch : Channel)

/-- A counted word uses up one outstanding word credit. -/
theorem Channel.countArrival_words (starts : Bool) (h : ch.credits.outstandingWords ≠ 0) :
    (ch.countArrival starts).credits.outstandingWords + 1 = ch.credits.outstandingWords := toNat_sub_succ _ _ h

/-- A counted First or Only uses up one outstanding message credit as well. -/
theorem Channel.countArrival_msgs (starts : Bool) (h : starts = true → ch.credits.outstandingMsgs ≠ 0) :
    (ch.countArrival starts).credits.outstandingMsgs + starts.toNat = ch.credits.outstandingMsgs := by
  cases starts
  · rfl
  · exact toNat_sub_succ _ _ (h rfl)

/-- The two credit bounds of a channel (06 R95). -/
def Channel.WithinBounds : Prop :=
  ch.rx.held + ch.credits.outstandingWords ≤ ch.rxRegion.capacity ∧
    ch.rx.records.length + ch.credits.outstandingMsgs ≤ 16

/-- A grant keeps the bounds: it brings the outstanding credits no further than the room there is (06 R96). -/
theorem Channel.WithinBounds.grant {ch : Channel} (h : ch.WithinBounds) : ch.grant.WithinBounds := by
  obtain ⟨hwords, hmsgs⟩ := h
  cases hconnected : ch.creditConnected with
  | false =>
    rw [ch.grant_of_not_connected hconnected]
    exact ⟨hwords, hmsgs⟩
  | true =>
    obtain ⟨hwords', -⟩ := ch.grant_words hconnected hwords
    obtain ⟨hmsgs', -⟩ := ch.grant_messages hconnected hmsgs
    have hrx : ch.grant.rx = ch.rx ∧ ch.grant.rxRegion = ch.rxRegion := by
      rw [Channel.grant_shape]
      exact ⟨rfl, rfl⟩
    unfold Channel.WithinBounds
    rw [hwords', hmsgs', hrx.1, hrx.2]
    omega

/-- A word without word credit, or a First or an Only without message credit, is a violation (06 R98). -/
theorem Channel.violates_iff (k : Kind) : ch.violates k = true ↔
    (ch.credits.outstandingWords = 0 ∨ (k.starts = true ∧ ch.credits.outstandingMsgs = 0)) := by
  simp [Channel.violates]

/-- A counted word that is stored or discarded stays within the bounds, since it uses up the credits of its room. -/
theorem Channel.WithinBounds.received {ch b : Channel} {k : Kind} {stored : Bool} (h : ch.WithinBounds)
    (hcredit : ¬ ch.violates k = true) (hb : (ch.countArrival k.starts).Receives b stored k.starts.toNat) :
    b.WithinBounds := by
  rw [Channel.violates_iff, not_or, not_and] at hcredit
  have hwords := ch.countArrival_words k.starts hcredit.1
  have hmsgs := ch.countArrival_msgs k.starts hcredit.2
  obtain ⟨hheld, hrecords⟩ := h
  have hone : stored.toNat ≤ 1 := stored.toNat_le
  have hrx : (ch.countArrival k.starts).rx = ch.rx := rfl
  unfold Channel.WithinBounds
  rw [hb.held, hb.records, hb.only.credits, hb.only.rxRegion, hrx]
  exact ⟨by change _ ≤ ch.rxRegion.capacity; omega, by omega⟩

/-! ### The arriving word (06 R98, R100) -/

/-- A word with credit is counted, then stored or discarded, and a grant follows. -/
theorem Channel.creditWord_counted (frame : Word) {k : Kind} (hmode : ch.config.mode = .credit)
    (h : ¬ ch.violates k = true) : ∃ b : Channel, (ch.creditWord frame k).1 = b.grant ∧
      (ch.countArrival k.starts).Receives b (ch.creditWord frame k).2 k.starts.toNat := by
  unfold Channel.creditWord
  rw [if_neg h]
  dsimp only
  split
  · rename_i hdiscarded
    have hrest : k.starts = false := by simpa using (Bool.and_eq_true_iff.mp hdiscarded).2
    refine ⟨_, rfl, ?_⟩
    rw [hrest]
    split <;> exact .of_lengths
  · have hassembled := Channel.Receives.assemble_credit ((ch.countArrival k.starts).setDiscard false) frame k hmode
    have hbegun : (ch.countArrival k.starts).Receives ((ch.countArrival k.starts).setDiscard false) false 0 :=
      .of_lengths
    exact ⟨_, rfl, hbegun.after hassembled⟩

/-- The channel with its credit totals replaced. -/
def Channel.withCredits (credits : Credits) : Channel := { ch with credits := credits }

theorem Channel.closeOpen_withCredits (credits : Credits) (mark : RxFlags → RxFlags) (last : Option Word) :
    (ch.withCredits credits).closeOpen mark last = (ch.closeOpen mark last).withCredits credits := by
  unfold Channel.closeOpen Channel.withCredits
  dsimp only
  split
  · rfl
  · split <;> rfl

theorem Channel.storeWord_withCredits (credits : Credits) :
    (ch.withCredits credits).storeWord = (ch.storeWord.1.withCredits credits, ch.storeWord.2) := by
  unfold Channel.storeWord Channel.withCredits
  dsimp only
  split
  · rfl
  · split <;> rfl

theorem Channel.assembleStart_withCredits (credits : Credits) (frame : Word) (isOnly : Bool) :
    (ch.withCredits credits).assembleStart frame isOnly =
      ((ch.assembleStart frame isOnly).1.withCredits credits, (ch.assembleStart frame isOnly).2) := by
  have hclose : (ch.withCredits credits).closeBroken = ch.closeBroken.withCredits credits :=
    ch.closeOpen_withCredits credits _ _
  have hstore : ((ch.closeBroken.withCredits credits).pushRecord frame).storeWord = _ :=
    (ch.closeBroken.pushRecord frame).storeWord_withCredits credits
  have hfull : (ch.closeBroken.withCredits credits).config = ch.closeBroken.config ∧
      (ch.closeBroken.withCredits credits).rx = ch.closeBroken.rx := ⟨rfl, rfl⟩
  unfold Channel.assembleStart
  simp only [hclose, hstore, hfull.1, hfull.2, Channel.closeOpen_withCredits]
  split
  · rfl
  · split <;> rfl

theorem Channel.assembleRest_withCredits (credits : Credits) (frame : Word) (isLast : Bool) :
    (ch.withCredits credits).assembleRest frame isLast =
      ((ch.assembleRest frame isLast).1.withCredits credits, (ch.assembleRest frame isLast).2) := by
  have hsame : (ch.withCredits credits).rx = ch.rx ∧ (ch.withCredits credits).config = ch.config := ⟨rfl, rfl⟩
  have hmark : ∀ f, (ch.withCredits credits).modNewest f = (ch.modNewest f).withCredits credits := fun _ => rfl
  unfold Channel.assembleRest
  simp only [hsame.1, hsame.2, hmark, Channel.storeWord_withCredits]
  split
  · rfl
  · split_ifs <;> simp only [Channel.closeOpen_withCredits]

/-- Record assembly knows nothing of the credit totals. -/
theorem Channel.assemble_withCredits (credits : Credits) (frame : Word) (k : Kind) :
    (ch.withCredits credits).assemble frame k =
      ((ch.assemble frame k).1.withCredits credits, (ch.assemble frame k).2) := by
  cases k
  case first | only => exact ch.assembleStart_withCredits credits frame _
  case middle | last => exact ch.assembleRest_withCredits credits frame _
  all_goals rfl

/-! ### The violation (06 R99) -/

/-- The records with the open one, if there is one, changed by `f`. -/
def RxSide.withOpen (x : RxSide) (f : RxRecord → RxRecord) : List RxRecord :=
  match x.openRecord with
  | none => x.records
  | some r => x.records.dropLast ++ [f r]

theorem RxSide.withOpen_none {x : RxSide} (f : RxRecord → RxRecord) (h : x.openRecord = none) :
    x.withOpen f = x.records := by simp only [RxSide.withOpen, h]

theorem RxSide.withOpen_some {x : RxSide} (f : RxRecord → RxRecord) {r : RxRecord} (h : x.openRecord = some r) :
    x.withOpen f = x.records.dropLast ++ [f r] := by simp only [RxSide.withOpen, h]

/-- A change that leaves the open record open is one change with the next. -/
theorem RxSide.withOpen_withOpen (x : RxSide) {f : RxRecord → RxRecord} (hf : ∀ r, (f r).complete = r.complete)
    (g : RxRecord → RxRecord) : ({ x with records := x.withOpen f } : RxSide).withOpen g = x.withOpen (g ∘ f) := by
  cases hopen : x.openRecord with
  | none =>
    rw [RxSide.withOpen_none f hopen, RxSide.withOpen_none g hopen, RxSide.withOpen_none _ hopen]
  | some r =>
    have hstays := (hf r).trans (RxSide.openRecord_some hopen).2
    rw [RxSide.withOpen_some f hopen, RxSide.withOpen_some _ hopen,
      RxSide.withOpen_some g (RxSide.openRecord_append _ _ _ _ hstays)]
    simp

/-- With RxTrouble latched already, closing the open record changes that record alone. -/
theorem Channel.closeOpen_latched (mark : RxFlags → RxFlags) (last : Option Word)
    (h : ch.latches ||| BitVec.twoPow 4 3 = ch.latches) : ch.closeOpen mark last = { ch with rx := { ch.rx with
      records := ch.rx.withOpen fun r => { r with complete := true, flags := mark r.flags, lastFrame := last } } } := by
  cases hopen : ch.rx.openRecord with
  | none => rw [ch.closeOpen_none _ _ hopen, RxSide.withOpen_none _ hopen]
  | some r => rw [ch.closeOpen_some _ _ hopen, RxSide.withOpen_some _ hopen, h, ite_self]

theorem Channel.damageOpen_withOpen : ch.damageOpen = { ch with rx := { ch.rx with
    records := ch.rx.withOpen fun r => { r with flags := { r.flags with damaged := true } } } } := by
  cases hopen : ch.rx.openRecord with
  | none => rw [ch.damageOpen_eq.1 hopen, RxSide.withOpen_none _ hopen]
  | some r => rw [ch.damageOpen_eq.2 r hopen, RxSide.withOpen_some _ hopen]

/-- What a violation makes of the open record, by the kind of the word. -/
def RxRecord.violatedBy (frame : Word) (k : Kind) (r : RxRecord) : RxRecord :=
  if k.starts then { r with complete := true, flags := { r.flags with broken := true }, lastFrame := none }
  else if k = .last then
    { r with complete := true, flags := { r.flags with damaged := true }, lastFrame := some frame }
  else { r with flags := { r.flags with damaged := true } }

/-- A violation is counted and latched, and treats the open record and the discard state by the kind. -/
theorem Channel.violation_eq (frame : Word) {k : Kind} (hk : k.isData = true) : ch.violation frame k = { ch with
    counters := ch.counters.set 4 (advance ch.counters[4])
    latches := ch.latches ||| BitVec.twoPow 4 3
    rx := { ch.rx with
      records := ch.rx.withOpen (RxRecord.violatedBy frame k)
      discard := if k = .middle then ch.rx.discard else k == .first } } := by
  -- RxTrouble is latched with the count, so that a record that closes with a flag latches nothing more.
  have hlatched : ch.latches ||| BitVec.twoPow 4 3 ||| BitVec.twoPow 4 3 = ch.latches ||| BitVec.twoPow 4 3 := by
    rw [BitVec.or_assoc, BitVec.or_self]
  unfold Channel.violation
  rcases k.isData_iff.mp hk with rfl | rfl | rfl | rfl <;> dsimp only
  · rw [Channel.closeBroken, Channel.closeOpen_latched _ _ _ hlatched]
    rfl
  · rw [Channel.damageOpen_withOpen]
    rfl
  · rw [Channel.damageOpen_withOpen, Channel.closeOpen_latched _ _ _ hlatched, RxSide.withOpen_withOpen]
    · rfl
    · exact fun _ => rfl
  · rw [Channel.closeBroken, Channel.closeOpen_latched _ _ _ hlatched]
    rfl

end

end Sys2Proof.Machine
end

section
/-! SUPPORT. An arriving word case by case, and the statement on it (06 R96 to R101, 08 R131). -/

namespace Sys2Proof.Machine

-- One theorem after another, as in the tests: many at once ask for more threads than there are.
set_option Elab.async false

section
variable (ch : Channel) (frame : Word) {k : Kind}

theorem Channel.creditConnected_iff :
    ch.creditConnected = true ↔ ch.config.mode = .credit ∧ ch.link.state.connected = true := by
  simp [Channel.creditConnected]

/-! ### What a grant leaves (06 R96) -/

@[simp] theorem Channel.grant_rx : ch.grant.rx = ch.rx := by rw [Channel.grant_shape]
@[simp] theorem Channel.grant_latches : ch.grant.latches = ch.latches := by rw [Channel.grant_shape]
@[simp] theorem Channel.grant_rxRegion : ch.grant.rxRegion = ch.rxRegion := by rw [Channel.grant_shape]

/-- A grant is the amounts of R96, each added to its total, with the mark of each positive amount set (06 R97). -/
theorem Channel.grant_connected (h : ch.creditConnected = true) : ch.grant = { ch with
    credits := { ch.credits with
      wordGranted := ch.credits.wordGranted + BitVec.ofNat 5 ch.wordGrant
      msgGranted := ch.credits.msgGranted + BitVec.ofNat 5 ch.msgGrant }
    wordMark := if ch.wordGrant = 0 then ch.wordMark else Mark.raised
    msgMark := if ch.msgGrant = 0 then ch.msgMark else Mark.raised } := by
  simp [Channel.grant, h, Nat.pos_iff_ne_zero]

/-! ### The arriving word by its three ways (06 R98 to R100) -/

theorem Channel.creditWord_violation (h : ch.violates k = true) :
    ch.creditWord frame k = (ch.violation frame k, false) := if_pos h

/-- In the discard state a Middle and a Last are counted and not stored, and Last ends the state. -/
theorem Channel.creditWord_discarded (h : ¬ ch.violates k = true) (hdiscard : ch.rx.discard = true)
    (hrest : k.starts = false) : ch.creditWord frame k =
      (Channel.grant { ch.countArrival k.starts with rx := { ch.rx with discard := !(k == .last) } }, false) := by
  have hstays : ch.countArrival k.starts =
      { ch.countArrival k.starts with rx := { ch.rx with discard := true } } := by rw [← hdiscard]; rfl
  have hcounted : (ch.countArrival k.starts).rx.discard = true := hdiscard
  unfold Channel.creditWord
  rw [if_neg h]
  dsimp only
  rw [if_pos (by rw [hcounted, hrest]; rfl)]
  by_cases hlast : k = .last
  · rw [if_pos hlast, hlast]
    rfl
  · rw [if_neg hlast, beq_eq_false_iff_ne.mpr hlast]
    exact congrArg (fun b => (Channel.grant b, false)) hstays

/-- Every other word is counted and goes to record assembly, out of the discard state. -/
theorem Channel.creditWord_assembled (h : ¬ ch.violates k = true)
    (hpass : ch.rx.discard = false ∨ k.starts = true) : ch.creditWord frame k =
      ((((ch.setDiscard false).assemble frame k).1.withCredits (ch.countArrival k.starts).credits).grant,
        ((ch.setDiscard false).assemble frame k).2) := by
  have hcounted : (ch.countArrival k.starts).setDiscard false =
      (ch.setDiscard false).withCredits (ch.countArrival k.starts).credits := rfl
  have hdiscard : (ch.countArrival k.starts).rx.discard = ch.rx.discard := rfl
  unfold Channel.creditWord
  rw [if_neg h]
  dsimp only
  rw [hdiscard, if_neg (by rcases hpass with hd | hs <;> simp [*]), hcounted, Channel.assemble_withCredits]

end

/-! ### The statement -/

/-- Settles O28: a violation as one change of the channel, a counted word with its grant, the discard state and record
assembly, then the Damaged mark and the grant. -/
theorem arrivingWordsAreCounted : Obligations.ArrivingWordsAreCounted := by
  unfold Obligations.ArrivingWordsAreCounted
  refine ⟨?_, ?_, fun ch => ?_⟩
  · intro ch ch' frame k stored hk hconnected hword
    obtain ⟨hmode, -⟩ := ch.creditConnected_iff.mp hconnected
    rw [← Channel.violates_iff]
    refine ⟨fun hviolates => ?_, fun hcredit hwords hmsgs => ?_⟩
    · rw [ch.creditWord_violation frame hviolates] at hword
      cases hword
      obtain ⟨honly, hheld, -, -⟩ := Channel.Receives.violation ch frame k
      refine ⟨rfl, honly.credits, hheld, ?_, ?_⟩
      · rw [ch.violation_eq frame hk]
      · simp [ch.violation_eq frame hk]
    · obtain ⟨b, hb, hreceives⟩ := ch.creditWord_counted frame hmode hcredit
      rw [hword] at hb hreceives
      dsimp only at hb hreceives
      subst hb
      obtain ⟨hbwords, hbmsgs⟩ := Channel.WithinBounds.received ⟨hwords, hmsgs⟩ hcredit hreceives
      have hbconnected : b.creditConnected = true := hreceives.only.creditConnected.trans hconnected
      have hcapacity : b.rxRegion = ch.rxRegion := hreceives.only.rxRegion
      have hshape := congrArg Channel.credits b.grant_shape
      have hcredits : b.credits = (ch.countArrival k.starts).credits := hreceives.only.credits
      rw [Channel.grant_rx, (b.grant_words hbconnected hbwords).1, (b.grant_messages hbconnected hbmsgs).1, hshape,
        hcredits, hcapacity]
      refine ⟨rfl, ?_, rfl, rfl, rfl, rfl, rfl, rfl, ?_⟩
      · cases hs : k.starts <;> simp [Channel.countArrival]
      · rw [hreceives.held]
        cases stored <;> rfl
  · intro ch ch' frame k stored hk hconnected hword
    rw [← Channel.violates_iff]
    refine ⟨fun hviolates => ?_,
      fun hcredit => ⟨fun hdiscard hrest => ?_, fun hdiscard hstarts => ?_, fun hdiscard => ?_⟩⟩
    · rw [ch.creditWord_violation frame hviolates, ch.violation_eq frame hk] at hword
      cases hword
      exact ⟨_, rfl, fun hopen => RxSide.withOpen_none _ hopen, fun r hopen => RxSide.withOpen_some _ hopen⟩
    · rw [ch.creditWord_discarded frame hcredit hdiscard hrest] at hword
      cases hword
      exact ⟨rfl, Channel.grant_rx _, Channel.grant_counters _, Channel.grant_latches _⟩
    · rw [← hword, ch.creditWord_assembled frame hcredit (.inr hstarts)]
      exact Channel.creditWord_assembled (ch.setDiscard false) frame hcredit (.inl rfl)
    · have hstays : ch.setDiscard false = ch := by rw [← hdiscard]; rfl
      rw [ch.creditWord_assembled frame hcredit (.inl hdiscard), hstays] at hword
      cases hword
      exact ⟨rfl, Channel.grant_rx _, Channel.grant_counters _, Channel.grant_latches _⟩
  · refine ⟨ch.damageOpen_eq.1, ch.damageOpen_eq.2, ch.grant_of_not_connected, fun hconnected gw gm hgw hgm => ?_⟩
    rw [hgw, hgm]
    exact ch.grant_connected hconnected

end Sys2Proof.Machine
end

section
/-! SUPPORT. The credit bounds in every step on a channel, with the totals at rest outside the connected states of
credit channels but for those of the words sent (05 R73, 06 R95, R97, R105). -/

namespace Sys2Proof.Machine

-- One theorem after another, as in the tests: many at once ask for more threads than there are.
set_option Elab.async false

/-! ### What the bounds speak of -/

/-- The totals with those of the words and messages sent left out. -/
def Credits.exceptUsed (k : Credits) : Credits := { k with wordUsed := 0, msgUsed := 0 }

/-- The two credit bounds, and outside the connected states of credit channels the totals 0 but for those of the words
sent, of which the sending side is to be asked. -/
structure Channel.Accounted (ch : Channel) : Prop where
  within : ch.WithinBounds
  atRest : ch.creditConnected = false → ch.credits.exceptUsed = Credits.zero

/-- The credits outstanding are not those of the words sent. -/
theorem Credits.outstanding_of_exceptUsed {k l : Credits} (h : k.exceptUsed = l.exceptUsed) :
    k.outstandingWords = l.outstandingWords ∧ k.outstandingMsgs = l.outstandingMsgs :=
  ⟨(congrArg Credits.outstandingWords h :), (congrArg Credits.outstandingMsgs h :)⟩

/-- With its totals at rest a channel has no credits outstanding. -/
theorem Credits.outstanding_of_atRest {k : Credits} (h : k.exceptUsed = Credits.zero) :
    k.outstandingWords = 0 ∧ k.outstandingMsgs = 0 := Credits.outstanding_of_exceptUsed (l := Credits.zero) h

/-- The link record and the mode say whether a channel is a credit channel in a connected state. -/
theorem Channel.creditConnected_of_timed {a b : Channel} (h : b.timed = a.timed) :
    b.creditConnected = a.creditConnected := by
  simp only [Channel.timed, Prod.mk.injEq] at h
  rw [Channel.creditConnected, h.1, h.2.1]
  rfl

theorem Channel.creditConnected_eq_false {ch : Channel} (h : ch.link.state.connected = false) :
    ch.creditConnected = false := by simp [Channel.creditConnected, h]

theorem Channel.creditConnected_of_stream {ch : Channel} (h : ch.config.mode = .stream) :
    ch.creditConnected = false := by simp [Channel.creditConnected, h]

namespace Channel.Accounted

section
variable {a b : Channel}

/-- What holds no more words and records, and keeps the credits outstanding. -/
theorem of_outstanding (ha : a.Accounted) (atRest : b.creditConnected = false → b.credits.exceptUsed = Credits.zero)
    (words : b.credits.outstandingWords = a.credits.outstandingWords := by rfl)
    (msgs : b.credits.outstandingMsgs = a.credits.outstandingMsgs := by rfl)
    (held : b.rx.held ≤ a.rx.held := by exact Nat.le_refl _)
    (records : b.rx.records.length ≤ a.rx.records.length := by exact Nat.le_refl _)
    (rxRegion : b.rxRegion = a.rxRegion := by rfl) : b.Accounted := by
  obtain ⟨hwords, hmsgs⟩ := ha.within
  refine ⟨⟨?_, ?_⟩, atRest⟩
  · rw [words, rxRegion]
    omega
  · rw [msgs]
    omega

/-- What keeps the totals but those of the words sent, and leaves the state connected or not as it was. -/
theorem of_same (ha : a.Accounted) (timed : b.timed = a.timed := by rfl)
    (totals : b.credits.exceptUsed = a.credits.exceptUsed := by rfl)
    (held : b.rx.held ≤ a.rx.held := by exact Nat.le_refl _)
    (records : b.rx.records.length ≤ a.rx.records.length := by exact Nat.le_refl _)
    (rxRegion : b.rxRegion = a.rxRegion := by rfl) : b.Accounted :=
  ha.of_outstanding
    (fun hb => totals.trans (ha.atRest ((Channel.creditConnected_of_timed timed).symm.trans hb)))
    (Credits.outstanding_of_exceptUsed totals).1 (Credits.outstanding_of_exceptUsed totals).2 held records rxRegion

/-- What the receiving side does without a word stored or a record begun. -/
theorem of_receives (ha : a.Accounted) (h : a.Receives b false 0) : b.Accounted :=
  ha.of_outstanding
    (fun hb => (congrArg Credits.exceptUsed h.only.credits).trans (ha.atRest (h.only.creditConnected.symm.trans hb)))
    (congrArg Credits.outstandingWords h.only.credits) (congrArg Credits.outstandingMsgs h.only.credits)
    (Nat.le_of_eq h.held) (Nat.le_of_eq h.records) h.only.rxRegion

/-- The same totals in a channel that was at rest before. -/
theorem of_unconnected (ha : a.Accounted) (h : a.creditConnected = false)
    (totals : b.credits.exceptUsed = a.credits.exceptUsed := by rfl)
    (held : b.rx.held ≤ a.rx.held := by exact Nat.le_refl _)
    (records : b.rx.records.length ≤ a.rx.records.length := by exact Nat.le_refl _)
    (rxRegion : b.rxRegion = a.rxRegion := by rfl) : b.Accounted :=
  ha.of_outstanding (fun _ => totals.trans (ha.atRest h)) (Credits.outstanding_of_exceptUsed totals).1
    (Credits.outstanding_of_exceptUsed totals).2 held records rxRegion

/-- Zeroed totals (06 R105). -/
theorem of_zero (ha : a.Accounted) (zero : b.credits = Credits.zero := by rfl)
    (held : b.rx.held ≤ a.rx.held := by exact Nat.le_refl _)
    (records : b.rx.records.length ≤ a.rx.records.length := by exact Nat.le_refl _)
    (rxRegion : b.rxRegion = a.rxRegion := by rfl) : b.Accounted := by
  have hrest : b.credits.exceptUsed = Credits.zero := by rw [zero]; rfl
  obtain ⟨hwords, hmsgs⟩ := ha.within
  obtain ⟨hbwords, hbmsgs⟩ := Credits.outstanding_of_atRest hrest
  refine ⟨⟨?_, ?_⟩, fun _ => hrest⟩
  · rw [hbwords, rxRegion]
    omega
  · rw [hbmsgs]
    omega

/-- A grant (06 R96, R97). -/
theorem grant (ha : a.Accounted) : a.grant.Accounted := by
  refine ⟨ha.within.grant, fun hconnected => ?_⟩
  rw [Channel.creditConnected_of_timed a.grant_timed] at hconnected
  rw [a.grant_of_not_connected hconnected]
  exact ha.atRest hconnected

end

section
variable {a : Channel} (ha : a.Accounted)
include ha

/-! ### Moves between link states (05) -/

/-- A move out of a connected state of a credit channel is a clear-down: another move leads to a connected state if it
starts in one. -/
theorem moveTo {st : LinkState} (hst : a.creditConnected = true → st.connected = true) :
    (a.moveTo st).Accounted := by
  have hview : (a.moveTo st).credits = a.credits ∧ (a.moveTo st).rx = a.rx ∧ (a.moveTo st).rxRegion = a.rxRegion ∧
      (a.moveTo st).config = a.config := by
    unfold Channel.moveTo
    split <;> exact ⟨rfl, rfl, rfl, rfl⟩
  obtain ⟨hcredits, hrx, hregion, hconfig⟩ := hview
  refine ha.of_outstanding (fun hb => ?_) (by rw [hcredits]) (by rw [hcredits]) (by rw [hrx]) (by rw [hrx]) hregion
  rw [Channel.creditConnected, Channel.moveTo_state, hconfig] at hb
  rw [hcredits]
  refine ha.atRest (Bool.eq_false_of_not_eq_true fun hconnected => ?_)
  rw [hst hconnected, (a.creditConnected_iff.mp hconnected).1] at hb
  cases hb

theorem afterEntry : a.afterEntry.Accounted := by
  have hmoved : ∀ st, (a.stopAnswer.moveTo st).rx = a.rx ∧ (a.stopAnswer.moveTo st).rxRegion = a.rxRegion := by
    intro st
    unfold Channel.moveTo
    split <;> exact ⟨rfl, rfl⟩
  obtain ⟨hrx, hregion⟩ := hmoved .opened
  cases hmode : a.config.mode with
  | credit =>
    simp only [Channel.afterEntry, hmode]
    refine grant (ha.of_zero rfl ?_ ?_ hregion)
    · exact Nat.le_of_eq (congrArg RxSide.held hrx :)
    · exact Nat.le_of_eq (congrArg (fun x => x.records.length) hrx)
  | stream =>
    simp only [Channel.afterEntry, hmode]
    exact moveTo (a := a.stopAnswer) (ha.of_outstanding fun hb => ha.atRest hb) fun _ => rfl

/-- What an RX abort leaves of the lengths. -/
theorem afterRestart : a.afterRestart.Accounted := by
  have habort := Channel.Receives.rxAbort a.emptyTx
  have hempty : a.emptyTx.rx = a.rx ∧ a.emptyTx.rxRegion = a.rxRegion := by
    rw [Channel.emptyTx_eq]
    exact ⟨rfl, rfl⟩
  have hheld : a.emptyTx.rxAbort.rx.held = a.rx.held := habort.held.trans (by rw [hempty.1]; rfl)
  have hrecords : a.emptyTx.rxAbort.rx.records.length = a.rx.records.length :=
    habort.records.trans (by rw [hempty.1]; rfl)
  have hcleared : a.emptyTx.rxAbort.zeroCredits.clearMarks.Accounted :=
    ha.of_zero rfl (Nat.le_of_eq hheld) (Nat.le_of_eq hrecords) (habort.only.rxRegion.trans hempty.2)
  exact hcleared.grant.of_outstanding fun hb => hcleared.grant.atRest hb

theorem afterClearDown (cause : Cause) (hconnected : a.link.state.connected = true) :
    (a.afterClearDown cause).Accounted := by
  have hlive : a.link.state ≠ .closed := fun h => by rw [h] at hconnected; cases hconnected
  obtain ⟨hheld, hrecords, -, -⟩ := a.rxAbort_rx
  rw [a.afterClearDown_eq cause hlive]
  cases hmode : a.config.mode with
  | credit => exact ha.of_zero rfl (Nat.le_of_eq hheld) (Nat.le_of_eq hrecords)
  | stream =>
    exact ha.of_unconnected (Channel.creditConnected_of_stream hmode) rfl (Nat.le_of_eq hheld) (Nat.le_of_eq hrecords)

theorem afterGivingUp {st : LinkState} (cause : Cause) (hunconnected : a.link.state.connected = false)
    (hst : a.link.state ≠ st) : (a.afterGivingUp st cause).Accounted := by
  rw [a.afterGivingUp_eq cause hst]
  exact ha.of_unconnected (Channel.creditConnected_eq_false hunconnected)

theorem flush (hst : a.link.state = .closed ∨ a.link.state = .fault) : a.flush.Accounted := by
  rw [a.flush_eq hst]
  refine ha.of_unconnected (Channel.creditConnected_eq_false ?_) rfl (Nat.zero_le _) (Nat.zero_le _)
  rcases hst with hst | hst <;> rw [hst] <;> rfl

/-! ### The receiving side (06 R98 to R101, 08) -/

/-- A data word: on a credit channel it is a violation or is counted with its grant; a stream channel stores a word or
begins a record only where there is room. -/
theorem dataWord (frame : Word) (k : Kind) (hreceiving : a.receiving = true) : (a.dataWord frame k).1.Accounted := by
  cases hmode : a.config.mode with
  | credit =>
    have hconnected : a.creditConnected = true := a.creditConnected_iff.mpr
      ⟨hmode, by simpa only [Channel.receiving, hmode] using hreceiving⟩
    simp only [Channel.dataWord, hmode]
    by_cases hviolates : a.violates k = true
    · rw [a.creditWord_violation frame hviolates]
      exact ha.of_receives (.violation a frame k)
    · obtain ⟨b, hb, hreceives⟩ := a.creditWord_counted frame hmode hviolates
      have hbconnected : b.creditConnected = true := hreceives.only.creditConnected.trans hconnected
      rw [hb]
      refine grant ⟨ha.within.received hviolates hreceives, fun hrest => ?_⟩
      rw [hbconnected] at hrest
      cases hrest
  | stream =>
    have hrest := ha.atRest (Channel.creditConnected_of_stream hmode)
    obtain ⟨hwords, hmsgs⟩ := ha.within
    have hdiscard : a.Receives (a.setDiscard false) false 0 := .of_lengths
    simp only [Channel.dataWord, Channel.streamWord, hmode]
    split
    · exact ha.of_receives .of_lengths
    · split
      · dsimp only
        split
        · exact ha.of_receives .of_lengths
        · exact ha
      · have hreceives := hdiscard.after (.assemble (a.setDiscard false) frame k)
        have hcredits := hreceives.only.credits
        obtain ⟨hzero, hnone⟩ := Credits.outstanding_of_atRest hrest
        have hlength : (a.setDiscard false).rx.records.length = a.rx.records.length := rfl
        have hstream : (a.setDiscard false).config.mode = .stream := hmode
        refine ⟨⟨?_, ?_⟩, fun _ => by rw [hcredits]; exact hrest⟩
        · rw [hreceives.held, hcredits, hreceives.only.rxRegion, hzero]
          rw [hzero] at hwords
          cases hstored : ((a.setDiscard false).assemble frame k).2 with
          | false => exact hwords
          | true => exact hreceives.room hstored
        · rw [hreceives.records, hcredits, hnone, hlength, hstream]
          rw [hnone] at hmsgs
          split_ifs with hstarts hfull
          · exact hmsgs
          · simp only [true_and] at hfull
            omega
          · exact hmsgs

theorem rxCheckError (hreceiving : a.receiving = true) : a.rxCheckError.Accounted := by
  cases hmode : a.config.mode with
  | credit =>
    have hconnected : a.creditConnected = true := a.creditConnected_iff.mpr
      ⟨hmode, by simpa only [Channel.receiving, hmode] using hreceiving⟩
    simp only [Channel.rxCheckError, Channel.creditCheckError, hmode]
    refine grant (of_receives ?_ (.damageOpen _))
    split
    · exact ha
    · rename_i hcredit
      have hcounted := a.countArrival_words false hcredit
      obtain ⟨hwords, hmsgs⟩ := ha.within
      have hrx : (a.countArrival false).rx = a.rx ∧ (a.countArrival false).rxRegion = a.rxRegion := ⟨rfl, rfl⟩
      refine ⟨⟨by rw [hrx.1, hrx.2]; omega, hmsgs⟩, fun hrest => ?_⟩
      rw [show (a.countArrival false).creditConnected = a.creditConnected from rfl, hconnected] at hrest
      cases hrest
  | stream =>
    simp only [Channel.rxCheckError, hmode]
    exact ha.of_receives (.damageOpen a)

/-- A released record frees its words and its place. -/
theorem releaseHead {r : RxRecord} {rest : List RxRecord} (hrecords : a.rx.records = r :: rest) :
    (a.releaseHead r rest).Accounted := by
  refine grant (ha.of_same rfl rfl ?_ ?_)
  · rw [RxSide.held, RxSide.held, hrecords]
    exact Nat.le_add_left _ _
  · rw [hrecords]
    exact Nat.le_succ _

theorem loseHighway : a.loseHighway.Accounted := by
  obtain ⟨-, hcredits, -, -, -, hregion, -⟩ := a.loseHighway_lossOn
  have hcut : a.cutTx.rx = a.rx := by rw [a.cutTx_eq]
  have hclose := Channel.Receives.closeBroken a.cutTx
  refine ha.of_same a.loseHighway_timed (congrArg _ hcredits) (Nat.le_of_eq ?_) (Nat.le_of_eq ?_) hregion
  · exact hclose.held.trans (by rw [hcut]; rfl)
  · exact hclose.records.trans (by rw [hcut]; rfl)

end

/-- A new RX region goes to a channel at rest that holds no record (03 R39, R45). -/
theorem giveRxRegion {a : Channel} (ha : a.Accounted) (r : Region) (hfree : a.reconfigurable = true) :
    (a.giveRxRegion r).Accounted := by
  obtain ⟨hst, hstored⟩ := a.reconfigurable_iff.mp hfree
  have hempty : a.rx.records = [] := by
    simp only [Channel.hasStoredWords, Bool.or_eq_false_iff, Bool.not_eq_false', List.isEmpty_iff] at hstored
    exact hstored.1.1
  have hrest := ha.atRest (Channel.creditConnected_eq_false (by rw [hst]; rfl))
  obtain ⟨hzero, hnone⟩ := Credits.outstanding_of_atRest hrest
  refine ⟨⟨?_, ?_⟩, fun _ => hrest⟩
  · rw [Channel.giveRxRegion_credits, hzero, Channel.giveRxRegion_rx, RxSide.held, hempty]
    exact Nat.zero_le _
  · rw [Channel.giveRxRegion_credits, hnone, Channel.giveRxRegion_rx, hempty]
    exact Nat.zero_le _

end Channel.Accounted

end Sys2Proof.Machine
end

section
/-! SUPPORT. The steps on a channel keep the credit bounds, and keep a word of the sending side on the line only while
the channel may send (06 R95, 07 R114, R118, R122). -/

namespace Sys2Proof.Machine

-- One theorem after another, as in the tests: many at once ask for more threads than there are.
set_option Elab.async false

/-! ### What the sending side holds -/

/-- What the sending side holds, with the totals of the words sent. -/
def Channel.sender (ch : Channel) : TxSide × BitVec 5 × BitVec 5 := (ch.tx, ch.credits.wordUsed, ch.credits.msgUsed)

section
variable (ch : Channel)

@[simp] theorem Channel.grant_sender : ch.grant.sender = ch.sender := by
  rw [Channel.grant_shape]
  rfl

@[simp] theorem Channel.moveTo_sender (st : LinkState) : (ch.moveTo st).sender = ch.sender := by
  unfold Channel.moveTo
  split <;> rfl

@[simp] theorem Channel.moveToWith_sender (st : LinkState) (cause : Cause) :
    (ch.moveToWith st cause).sender = ch.sender := ch.moveTo_sender st

@[simp] theorem Channel.stopTimers_sender : ch.stopTimers.sender = ch.sender := rfl

@[simp] theorem Channel.flush_onLine : ch.flush.tx.onLine = ch.tx.onLine :=
  congrArg (fun view => view.1.onLine) (Channel.moveTo_sender _ .closed)

/-- A flush takes the word from the line (05 R71). -/
@[simp] theorem Channel.emptyTx_onLine : ch.emptyTx.tx.onLine = false := by
  unfold Channel.emptyTx
  dsimp only
  split <;> rfl

@[simp] theorem Channel.afterGivingUp_onLine (st : LinkState) (cause : Cause) :
    (ch.afterGivingUp st cause).tx.onLine = false :=
  (congrArg (fun view => view.1.onLine) (Channel.moveToWith_sender ch.emptyTx.stopTimers st cause)).trans
    ch.emptyTx_onLine

@[simp] theorem Channel.clearDown_tx : ch.clearDown.tx = ch.tx := by
  have habort := (Channel.Receives.rxAbort ch).only.tx
  unfold Channel.clearDown
  dsimp only
  split <;> exact habort

@[simp] theorem Channel.afterClearDown_onLine (cause : Cause) : (ch.afterClearDown cause).tx.onLine = false :=
  (congrArg (fun view => view.1.onLine) (Channel.moveToWith_sender ch.emptyTx.clearDown .closed cause)).trans
    ((congrArg TxSide.onLine ch.emptyTx.clearDown_tx).trans ch.emptyTx_onLine)

@[simp] theorem Channel.afterRestart_onLine : ch.afterRestart.tx.onLine = false := by
  have hgrant := Channel.grant_sender ch.emptyTx.rxAbort.zeroCredits.clearMarks
  refine (congrArg (fun view => view.1.onLine) hgrant).trans ?_
  exact (congrArg TxSide.onLine (Channel.Receives.rxAbort ch.emptyTx).only.tx).trans ch.emptyTx_onLine

@[simp] theorem Channel.hearWordLevel_tx (v : BitVec 5) : (ch.hearWordLevel v).tx = ch.tx :=
  (Channel.endStarvation_keeps _ _).2.1

@[simp] theorem Channel.hearMsgLevel_tx (v : BitVec 5) : (ch.hearMsgLevel v).tx = ch.tx :=
  (Channel.endStarvation_keeps _ _).2.1

@[simp] theorem TxSide.endOpenMessage_onLine (t : TxSide) : t.endOpenMessage.onLine = t.onLine := by
  unfold TxSide.endOpenMessage
  split_ifs <;> rfl

@[simp] theorem TxSide.abandonOpenMessage_onLine (t : TxSide) : t.abandonOpenMessage.onLine = t.onLine := by
  unfold TxSide.abandonOpenMessage
  split_ifs <;> rfl

/-- What the receiving side does leaves the sending side alone. -/
theorem Channel.ReceivesOnly.sender {a b : Channel} (h : a.ReceivesOnly b) : b.sender = a.sender := by
  rw [Channel.sender, h.tx, h.credits]
  rfl

@[simp] theorem Channel.dataWord_sender (frame : Word) (k : Kind) : (ch.dataWord frame k).1.sender = ch.sender := by
  cases hmode : ch.config.mode with
  | credit =>
    simp only [Channel.dataWord, hmode]
    by_cases hviolates : ch.violates k = true
    · rw [ch.creditWord_violation frame hviolates]
      exact (Channel.Receives.violation ch frame k).only.sender
    · obtain ⟨b, hb, hreceives⟩ := ch.creditWord_counted frame hmode hviolates
      rw [hb, Channel.grant_sender]
      exact hreceives.only.sender
  | stream =>
    simp only [Channel.dataWord, Channel.streamWord, hmode]
    split
    · rfl
    · split
      · dsimp only
        split <;> rfl
      · exact (Channel.Receives.assemble (ch.setDiscard false) frame k).only.sender

@[simp] theorem Channel.rxCheckError_sender : ch.rxCheckError.sender = ch.sender := by
  unfold Channel.rxCheckError Channel.creditCheckError
  split
  · rw [Channel.grant_sender, (Channel.Receives.damageOpen _).only.sender]
    split <;> rfl
  · exact (Channel.Receives.damageOpen ch).only.sender

/-- The oldest unsent word goes on the line as a word of the FIFO, and leaves all but the sending side and the
counters. -/
theorem Channel.offerFifoWord_eq (c : Chan) (mark : Bool) : (ch.offerFifoWord c mark).owner = .streamWord c ∧
    (ch.offerFifoWord c mark).after = { ch with
      tx := (ch.offerFifoWord c mark).after.tx, counters := (ch.offerFifoWord c mark).after.counters } := by
  unfold Channel.offerFifoWord
  dsimp only
  split
  · exact ⟨rfl, rfl⟩
  · refine ⟨rfl, ?_⟩
    dsimp only
    split <;> rfl

/-- What an answer is: the channel after it differs in its sending side and its counters alone; and where it brings a
word of the sending side on the line, its owner says so and the channel may send (07 R114, R122). -/
theorem Channel.offer_answer {c : Chan} {answer : Answer} (h : ch.offer c = some answer) :
    answer.after = { ch with tx := answer.after.tx, counters := answer.after.counters } ∧
      (ch.tx.onLine = false → answer.after.tx.onLine = true →
        (answer.owner = .creditData c ∧ ch.creditConnected = true) ∨
          (answer.owner = .streamWord c ∧ ch.config.mode = .stream ∧ ch.streamSending = true)) := by
  have hnone : ∀ {P : Prop}, ch.tx.onLine = false → ch.tx.onLine = true → P := fun hoff hon => by
    rw [hoff] at hon
    cases hon
  unfold Channel.offer at h
  split at h
  case h_1 hmode =>
    unfold Channel.offerCredit at h
    split_ifs at h with hconnected
    split at h
    · cases h
    · split_ifs at h
      cases h
      exact ⟨rfl, fun _ _ => .inl ⟨rfl, ch.creditConnected_iff.mpr ⟨hmode, hconnected⟩⟩⟩
  case h_2 hmode =>
    unfold Channel.offerStream at h
    split at h
    · rename_i hsending
      split at h
      · cases h
        exact ⟨rfl, hnone⟩
      · split at h
        · cases h
          obtain ⟨howner, hafter⟩ := ch.offerFifoWord_eq c _
          exact ⟨hafter, fun _ _ => .inr ⟨howner, hmode, hsending⟩⟩
        · split_ifs at h
          cases h
          exact ⟨rfl, hnone⟩
    · cases h

end

/-! ### A word on the line only while the channel may send -/

/-- A word of the sending side is on the line only while the channel may send: a credit channel in a connected state, a
stream channel in OPEN or DRAIN (07 R114, R118, R122). -/
def Channel.SendsInService (ch : Channel) : Prop :=
  ch.tx.onLine = true → ch.creditConnected = true ∨ (ch.config.mode = .stream ∧ ch.streamSending = true)

theorem Channel.streamSending_iff (ch : Channel) :
    ch.streamSending = true ↔ ch.link.state = .opened ∨ ch.link.state = .drain := by
  simp [Channel.streamSending]

/-- A move to a connected state makes a credit channel one in a connected state. -/
theorem Channel.moveTo_creditConnected {ch : Channel} {st : LinkState} (hmode : ch.config.mode = .credit)
    (hst : st.connected = true) : (ch.moveTo st).creditConnected = true := by
  have hconfig : (ch.moveTo st).config = ch.config := congrArg (fun view => view.2.2) (ch.moveTo_linkView st)
  rw [Channel.creditConnected_iff, Channel.moveTo_state, hconfig]
  exact ⟨hmode, hst⟩

namespace Channel.SendsInService

variable {a b : Channel}

/-- With no word on the line there is nothing to hold. -/
theorem of_off (h : b.tx.onLine = false) : b.SendsInService := fun hon => by
  rw [h] at hon
  cases hon

/-- What brings no word on the line and leaves link state and mode. -/
theorem of_same (ha : a.SendsInService) (timed : b.timed = a.timed := by rfl)
    (onLine : b.tx.onLine = true → a.tx.onLine = true := by exact id) : b.SendsInService := by
  intro hon
  rw [Channel.creditConnected_of_timed timed]
  simp only [Channel.timed, Prod.mk.injEq] at timed
  rw [Channel.streamSending, timed.1, timed.2.1]
  exact ha (onLine hon)

/-- In a state that is not connected no word is on the line. -/
theorem off_of_unconnected (ha : a.SendsInService) (h : a.link.state.connected = false) : a.tx.onLine = false := by
  refine Bool.eq_false_of_not_eq_true fun hon => ?_
  rcases ha hon with hcredit | ⟨-, hsending⟩
  · rw [(a.creditConnected_iff.mp hcredit).2] at h
    cases h
  · rcases a.streamSending_iff.mp hsending with hst | hst <;> rw [hst] at h <;> cases h

/-- A highway loss takes the word from the line (07 R117, R124). -/
theorem loseHighway_onLine (ha : a.SendsInService) : a.loseHighway.tx.onLine = false := by
  obtain ⟨-, -, -, -, -, -, -, -, -, -, hcredit, hstream, hidle⟩ := a.loseHighway_lossOn
  cases hmode : a.config.mode with
  | credit =>
    obtain ⟨ms, htx, -⟩ := hcredit hmode
    rw [htx]
  | stream =>
    cases hsending : a.streamSending with
    | true => rw [hstream hmode hsending]
    | false =>
      rw [hidle hmode hsending]
      refine Bool.eq_false_of_not_eq_true fun hon => ?_
      rcases ha hon with hconnected | ⟨-, hsends⟩
      · rw [Channel.creditConnected_of_stream hmode] at hconnected
        cases hconnected
      · rw [hsending] at hsends
        cases hsends

end Channel.SendsInService

/-! ### The steps -/

/-- A step brings a word on the line by an offer alone, and leaves the connected states with none on the line. -/
theorem Channel.SendsInService.step {a b : Channel} (h : Channel.Step a b) (ha : a.SendsInService) :
    b.SendsInService := by
  have hoff : ∀ st : LinkState, a.link.state = st → st.connected = false → a.tx.onLine = false :=
    fun st hst hconnected => ha.off_of_unconnected (by rw [hst]; exact hconnected)
  -- Where a credit channel is led to a connected state there is nothing more to ask.
  have hmove : ∀ (ch : Channel) (st : LinkState), ch.config.mode = .credit → st.connected = true →
      (ch.moveTo st).SendsInService := fun _ _ hmode hst _ => .inl (Channel.moveTo_creditConnected hmode hst)
  have hview : ∀ ch : Channel, ch.sender.1.onLine = ch.tx.onLine := fun _ => rfl
  cases h
  case listen hst _ _ _ =>
    refine .of_off ?_
    rw [← hview, Channel.moveTo_sender]
    exact hoff _ hst rfl
  case startOpening hbefore =>
    refine .of_off ?_
    rw [← hview, Channel.moveTo_sender]
    rcases hbefore with hst | ⟨hst, -⟩
    · exact hoff _ hst rfl
    · exact hoff _ hst rfl
  case enterOpen =>
    intro _
    have htimed := a.afterEntry_timed
    simp only [Channel.timed, Prod.mk.injEq] at htimed
    obtain ⟨hlink, hmode, -⟩ := htimed
    rw [Channel.creditConnected_iff, Channel.streamSending_iff, hlink, hmode]
    cases a.config.mode
    · exact .inl ⟨rfl, rfl⟩
    · exact .inr ⟨rfl, .inl rfl⟩
  case drainCredit hmode => exact hmove _ _ hmode rfl
  case closeWait hmode => exact hmove (a.loadAnswer _) _ hmode rfl
  case yieldOpened hmode _ => exact hmove a.dropComposing _ hmode rfl
  case yieldDrain hmode => exact hmove _ _ hmode rfl
  case drainStream hmode =>
    intro _
    refine .inr ⟨?_, ?_⟩
    · refine (congrArg (fun view => view.2.2.mode) (Channel.moveTo_linkView _ _)).trans ?_
      split <;> exact hmode
    · rw [Channel.streamSending_iff, Channel.moveTo_state]
      exact .inr rfl
  case clearDown | giveUp | fail | restart => exact .of_off (by simp)
  case flush hst =>
    refine .of_off ?_
    rw [Channel.flush_onLine]
    exact hst.elim (fun hst => hoff _ hst rfl) fun hst => hoff _ hst rfl
  case retryAnswer | stopAnswer | restartProbe => exact ha
  case marks | latches | counters | tag | post => exact ha.of_same
  case resetProbe => exact ha.of_same (by simp)
  case countFrame => exact ha
  case hearWordLevel | hearMsgLevel => exact ha.of_same (Channel.endStarvation_timed _ _) (by simp)
  case appendWord =>
    refine ha.of_same (by simp) ?_
    unfold Channel.appendWord
    split <;> exact id
  case refuseWrite | dropComposing | advanceRead | giveTxRegion | giveRxRegion => exact ha.of_same
  case endOpenMessage | abandonOpenMessage => exact ha.of_same rfl (by simp)
  case offer c answer hanswers =>
    intro hon
    obtain ⟨hafter, hnew⟩ := a.offer_answer hanswers
    have hconnected := Channel.creditConnected_of_timed (Channel.offer_timed _ hanswers)
    rw [hconnected, Channel.streamSending, hafter]
    cases hoff : a.tx.onLine with
    | true => exact ha hoff
    | false => exact (hnew hoff hon).imp (fun h => h.2) fun h => h.2
  case reportGone | reportMore | reportLast => exact .of_off rfl
  case reportStreamWord =>
    refine ha.of_same (by simp) ?_
    unfold Channel.reportStreamWord
    split
    · exact fun hon => by cases hon
    · exact id
  case dataWord frame k _ =>
    refine ha.of_same (by simp) fun hon => ?_
    rwa [← hview, Channel.dataWord_sender] at hon
  case checkError =>
    refine ha.of_same (by simp) fun hon => ?_
    rwa [← hview, Channel.rxCheckError_sender] at hon
  case release =>
    refine ha.of_same (by simp) fun hon => ?_
    rwa [← hview, Channel.releaseHead, Channel.grant_sender] at hon
  case loseHighway => exact .of_off ha.loseHighway_onLine
  case configure k w g hwritten hfree =>
    rcases hfree with hk | hclosed
    · exact ha.of_same (by simp only [Channel.timed, ChanConfig.write_mode hwritten hk])
    · exact .of_off (hoff _ ((Channel.reconfigurable_iff a).mp hclosed).1 rfl)

/-- The end of starvation moves the count of the probe timer alone (06 R107). -/
theorem Channel.Accounted.endStarvation (before : Channel) {after : Channel} (h : after.Accounted) :
    (before.endStarvation after).Accounted := by
  unfold Channel.endStarvation
  split
  · exact h.of_outstanding h.atRest
  · exact h

/-- An empty channel with its totals zeroed. -/
theorem Channel.Accounted.of_empty {ch : Channel} (hcredits : ch.credits = Credits.zero)
    (hrecords : ch.rx.records = []) : ch.Accounted := by
  have hrest : ch.credits.exceptUsed = Credits.zero := by rw [hcredits]; rfl
  obtain ⟨hzero, hnone⟩ := Credits.outstanding_of_atRest hrest
  refine ⟨⟨?_, ?_⟩, fun _ => hrest⟩
  · rw [hzero, RxSide.held, hrecords]
    exact Nat.zero_le _
  · rw [hnone, hrecords]
    exact Nat.zero_le _

/-- A step keeps the credit bounds: the credits outstanding move with the words held and the room there is, and a
channel leaves the connected states with its totals zeroed. -/
theorem Channel.Accounted.step {a b : Channel} (h : Channel.Step a b) (ha : a.Accounted) : b.Accounted := by
  have hunconnected : ∀ st : LinkState, a.link.state = st → st.connected = false → a.creditConnected = false :=
    fun st hst hconnected => Channel.creditConnected_eq_false (by rw [hst]; exact hconnected)
  -- A move that leads to a connected state, and one that starts in a state that is none.
  have hmove : ∀ (ch : Channel) (st : LinkState), ch.Accounted → st.connected = true → (ch.moveTo st).Accounted :=
    fun _ _ hch hst => hch.moveTo fun _ => hst
  have hleave : ∀ (ch : Channel) (st : LinkState), ch.Accounted → ch.creditConnected = false →
      (ch.moveTo st).Accounted := fun _ _ hch hidle => hch.moveTo fun hconnected => by
    rw [hidle] at hconnected
    cases hconnected
  cases h
  case listen hst _ _ _ => exact hleave a _ ha (hunconnected _ hst rfl)
  case startOpening l hbefore =>
    have hidle : a.creditConnected = false := by
      rcases hbefore with hst | ⟨hst, -, -, -⟩ <;> exact hunconnected _ hst rfl
    exact hleave (a.loadAnswer l) _ (ha.of_unconnected hidle) hidle
  case enterOpen => exact ha.afterEntry
  case drainCredit | yieldOpened => exact hmove a.dropComposing _ ha.of_same rfl
  case drainStream =>
    refine hmove _ _ ?_ rfl
    split
    · exact ha.of_same
    · exact ha
  case closeWait l _ _ => exact hmove (a.loadAnswer l) _ (ha.of_outstanding ha.atRest) rfl
  case yieldDrain => exact hmove a _ ha rfl
  case clearDown cause hconnected => exact ha.afterClearDown cause hconnected
  case giveUp cause hst =>
    rcases hst with hst | hst <;> exact ha.afterGivingUp cause (by rw [hst]; rfl) (by rw [hst]; decide)
  case fail cause hst => exact ha.afterGivingUp cause (by rw [hst]; rfl) (by rw [hst]; decide)
  case restart => exact ha.afterRestart
  case flush hst => exact ha.flush hst
  case retryAnswer | stopAnswer | restartProbe | resetProbe | countFrame => exact ha.of_outstanding ha.atRest
  case marks | latches | counters | tag | post | endOpenMessage | abandonOpenMessage => exact ha.of_same
  case refuseWrite | dropComposing | giveTxRegion | reportGone => exact ha.of_same
  case hearWordLevel hst hmode | hearMsgLevel hst hmode =>
    refine Channel.Accounted.endStarvation a (ha.of_outstanding fun hidle => ?_)
    have hconnected : a.creditConnected = false := hidle
    rw [a.creditConnected_iff.mpr ⟨hmode, hst⟩] at hconnected
    cases hconnected
  case appendWord =>
    unfold Channel.appendWord
    split <;> exact ha.of_same
  case offer hanswers =>
    rw [(a.offer_answer hanswers).1]
    exact ha.of_same
  case reportMore | reportLast => exact ha.of_outstanding ha.atRest
  case reportStreamWord =>
    unfold Channel.reportStreamWord
    split
    · exact ha.of_same
    · exact ha
  case dataWord frame k hreceiving => exact ha.dataWord frame k hreceiving
  case checkError hreceiving => exact ha.rxCheckError hreceiving
  case release hrecords _ => exact ha.releaseHead hrecords
  case advanceRead r rest hrecords _ =>
    refine ha.of_same rfl rfl (Nat.le_of_eq ?_) (Nat.le_of_eq ?_)
    · rw [RxSide.held, RxSide.held, hrecords]
      rfl
    · rw [hrecords]
      rfl
  case loseHighway => exact ha.loseHighway
  case giveRxRegion r hfree => exact ha.giveRxRegion r hfree
  case configure k w g hwritten hfree =>
    rcases hfree with hk | hclosed
    · exact ha.of_same (by simp only [Channel.timed, ChanConfig.write_mode hwritten hk])
    · exact ha.of_unconnected (hunconnected _ ((Channel.reconfigurable_iff a).mp hclosed).1 rfl)

/-- Every step keeps the bounds on every channel, and both resets give them. -/
theorem step_accounted {s t : State} (hs : ∀ c : Chan, (s.chan c).Accounted) (h : step s = .next t) :
    ∀ c : Chan, (t.chan c).Accounted :=
  step_keeps_channels (fun _ _ => Channel.Accounted.step)
    (fun _ => .of_empty rfl rfl) (.of_empty rfl rfl) hs h

end Sys2Proof.Machine
end

section
/-! SUPPORT. What brings no word of a sending side on the line and pays for none: every operation of the engines and the
Link Controller but the offer and the report (06 R103, 07 R114, R115, R122). -/

namespace Sys2Proof.Machine

-- One theorem after another, as in the tests: many at once ask for more threads than there are.
set_option Elab.async false

/-- No word sent stands to a channel's account but to that of a credit channel in a connected state (06 R105). -/
def Channel.Settled (ch : Channel) : Prop :=
  ch.creditConnected = true ∨ (ch.credits.wordUsed = 0 ∧ ch.credits.msgUsed = 0)

/-- From `a` to `b` no word of the sending side came on the line, and the account of the words sent stays settled. -/
structure Channel.Silent (a b : Channel) : Prop where
  onLine : b.tx.onLine = true → a.tx.onLine = true ∧ b.config.mode = a.config.mode
  settled : a.Settled → b.Settled

namespace Channel.Silent

/-! ### What gives it -/

section
variable {a b c : Channel}

/-- What leaves the sending side and the mode, and leaves the state connected or not as it was. -/
theorem of_same (sender : b.sender = a.sender := by rfl) (mode : b.config.mode = a.config.mode := by rfl)
    (connected : b.creditConnected = a.creditConnected := by rfl) : a.Silent b := by
  simp only [Channel.sender, Prod.mk.injEq] at sender
  obtain ⟨htx, hword, hmsg⟩ := sender
  refine ⟨fun hon => ⟨htx ▸ hon, mode⟩, ?_⟩
  rw [Channel.Settled, Channel.Settled, connected, hword, hmsg]
  exact id

theorem of_timed (timed : b.timed = a.timed) (sender : b.sender = a.sender := by rfl) : a.Silent b :=
  of_same sender (congrArg (fun view => view.2.1) timed) (Channel.creditConnected_of_timed timed)

/-- What changes of the sending side only what is not sent yet. -/
theorem of_tx (onLine : b.tx.onLine = true → a.tx.onLine = true := by exact id)
    (mode : b.config.mode = a.config.mode := by rfl)
    (settled : a.Settled → b.Settled := by exact id) : a.Silent b := ⟨fun hon => ⟨onLine hon, mode⟩, settled⟩

/-- What leaves no word on the line. -/
theorem of_off (off : b.tx.onLine = false) (settled : a.Settled → b.Settled) : a.Silent b :=
  ⟨fun hon => absurd (off.symm.trans hon) Bool.false_ne_true, settled⟩

theorem same (a : Channel) : a.Silent a := of_same

theorem trans (h : a.Silent b) (k : b.Silent c) : a.Silent c where
  onLine hon := by
    obtain ⟨hb, hmode⟩ := k.onLine hon
    obtain ⟨ha, hmode'⟩ := h.onLine hb
    exact ⟨ha, hmode.trans hmode'⟩
  settled ha := k.settled (h.settled ha)

end

section
variable (ch : Channel)

/-! ### Moves between link states (05) -/

/-- A move to a connected state, or of a channel that is no credit channel in one. -/
theorem moveTo {st : LinkState} (hst : ch.creditConnected = true → st.connected = true) :
    ch.Silent (ch.moveTo st) := by
  have hview := ch.moveTo_sender st
  simp only [Channel.sender, Prod.mk.injEq] at hview
  obtain ⟨htx, hword, hmsg⟩ := hview
  have hconfig : (ch.moveTo st).config = ch.config := congrArg (fun view => view.2.2) (ch.moveTo_linkView st)
  refine ⟨fun hon => ⟨htx ▸ hon, by rw [hconfig]⟩, ?_⟩
  rw [Channel.Settled, Channel.Settled, hword, hmsg]
  exact Or.imp_left fun hconnected =>
    Channel.moveTo_creditConnected (ch.creditConnected_iff.mp hconnected).1 (hst hconnected)

theorem moveTo_connected {st : LinkState} (hst : st.connected = true) : ch.Silent (ch.moveTo st) :=
  moveTo ch fun _ => hst

theorem moveTo_of_unconnected {st : LinkState} (h : ch.link.state.connected = false) : ch.Silent (ch.moveTo st) := by
  refine moveTo ch fun hconnected => ?_
  rw [(ch.creditConnected_iff.mp hconnected).2] at h
  cases h

theorem afterEntry : ch.Silent ch.afterEntry := by
  have hmoved : ch.Silent (ch.stopAnswer.moveTo .opened) :=
    (of_same : ch.Silent ch.stopAnswer).trans (moveTo_connected _ rfl)
  cases hmode : ch.config.mode with
  | credit =>
    simp only [Channel.afterEntry, hmode]
    refine (hmoved.trans ?_).trans (of_timed (Channel.grant_timed _) (Channel.grant_sender _))
    exact of_tx (settled := fun _ => .inr ⟨rfl, rfl⟩)
  | stream =>
    simp only [Channel.afterEntry, hmode]
    exact hmoved

/-- A clear-down zeroes the account of a credit channel, and a stream channel's is settled already. -/
theorem afterClearDown (cause : Cause) : ch.Silent (ch.afterClearDown cause) := by
  refine of_off (ch.afterClearDown_onLine cause) fun hsettled => .inr ?_
  have hview := Channel.moveToWith_sender ch.emptyTx.clearDown .closed cause
  have hempty : ch.emptyTx.config = ch.config ∧ ch.emptyTx.credits = ch.credits := by
    rw [Channel.emptyTx_eq]
    exact ⟨rfl, rfl⟩
  have habort := (Channel.Receives.rxAbort ch.emptyTx).only
  have hmode : ch.emptyTx.rxAbort.config = ch.config := habort.config.trans hempty.1
  have hcredits : ch.emptyTx.rxAbort.credits = ch.credits := habort.credits.trans hempty.2
  simp only [Channel.sender, Prod.mk.injEq] at hview
  rw [Channel.afterClearDown, hview.2.1, hview.2.2]
  unfold Channel.clearDown
  dsimp only
  rw [hmode]
  cases hstream : ch.config.mode with
  | credit => exact ⟨rfl, rfl⟩
  | stream =>
    have hpaid := hsettled.resolve_left (by rw [Channel.creditConnected_of_stream hstream]; decide)
    exact hcredits ▸ hpaid

theorem afterGivingUp {st : LinkState} (cause : Cause) (h : ch.link.state.connected = false) :
    ch.Silent (ch.afterGivingUp st cause) := by
  refine of_off (ch.afterGivingUp_onLine st cause) fun hsettled => .inr ?_
  have hview := Channel.moveToWith_sender ch.emptyTx.stopTimers st cause
  have hempty : ch.emptyTx.stopTimers.credits = ch.credits := by
    rw [Channel.emptyTx_eq]
    rfl
  simp only [Channel.sender, Prod.mk.injEq] at hview
  rw [Channel.afterGivingUp, hview.2.1, hview.2.2, hempty]
  exact hsettled.resolve_left (by rw [Channel.creditConnected_eq_false h]; decide)

theorem afterRestart : ch.Silent ch.afterRestart := by
  refine of_off ch.afterRestart_onLine fun _ => .inr ?_
  have hview := Channel.grant_sender ch.emptyTx.rxAbort.zeroCredits.clearMarks
  simp only [Channel.sender, Prod.mk.injEq] at hview
  exact ⟨hview.2.1, hview.2.2⟩

theorem flush (h : ch.link.state.connected = false) : ch.Silent ch.flush := by
  have hcleared : ch.Silent { ch.emptyRx.flushTxSide with latches := 0 } := of_tx
  exact hcleared.trans (moveTo_of_unconnected _ h)

/-! ### The sending and the receiving side -/

theorem grant : ch.Silent ch.grant := of_timed ch.grant_timed ch.grant_sender

theorem dataWord (frame : Word) (k : Kind) : ch.Silent (ch.dataWord frame k).1 :=
  of_timed (ch.dataWord_timed frame k) (ch.dataWord_sender frame k)

theorem rxCheckError : ch.Silent ch.rxCheckError := of_timed ch.rxCheckError_timed ch.rxCheckError_sender

/-- A released record gives its room to a grant. -/
theorem releaseHead (r : RxRecord) (rest : List RxRecord) : ch.Silent (ch.releaseHead r rest) := by
  unfold Channel.releaseHead
  exact trans of_tx (grant _)

theorem appendWord : ch.Silent ch.appendWord := by
  unfold Channel.appendWord
  split <;> exact of_tx

theorem endOpenMessage : ch.Silent { ch with tx := ch.tx.endOpenMessage } := of_tx (by simp)

theorem abandonOpenMessage : ch.Silent { ch with tx := ch.tx.abandonOpenMessage } := of_tx (by simp)

/-- A level word heard moves a total that is not of the words sent. -/
theorem endStarvation {after : Channel} (h : ch.Silent after) : ch.Silent (ch.endStarvation after) := by
  refine h.trans (of_timed (Channel.endStarvation_timed _ _) ?_)
  obtain ⟨hcredits, htx, -⟩ := ch.endStarvation_keeps after
  rw [Channel.sender, hcredits, htx]
  rfl

theorem loseHighway (hservice : ch.SendsInService) : ch.Silent ch.loseHighway := by
  obtain ⟨-, hcredits, -⟩ := ch.loseHighway_lossOn
  refine of_off hservice.loseHighway_onLine fun hsettled => ?_
  rw [Channel.Settled, Channel.creditConnected_of_timed ch.loseHighway_timed, hcredits]
  exact hsettled

/-- A configuration word is taken whole, and the mode with it only of a channel with no word on the line (03 R39). -/
theorem configure {k : Nat} {w : Word} {g : ChanConfig} (hservice : ch.SendsInService)
    (hwritten : ch.config.write k w = some g) (hfree : k ≠ 0 ∨ ch.reconfigurable = true) :
    ch.Silent { ch with config := g } := by
  rcases hfree with hk | hclosed
  · exact of_timed (by simp only [Channel.timed, ChanConfig.write_mode hwritten hk])
  · have hunconnected : ch.link.state.connected = false := by
      rw [(ch.reconfigurable_iff.mp hclosed).1]
      rfl
    refine of_off (hservice.off_of_unconnected hunconnected) fun hsettled => .inr ?_
    exact hsettled.resolve_left (by rw [Channel.creditConnected_eq_false hunconnected]; decide)

end

end Channel.Silent

/-! ### Operations of the part -/

/-- From `s` to `t` no word of a sending side came on the line, and what was on the line stays there, if the channels
have a word on it. -/
structure Silent (s t : State) : Prop where
  line : t.hwi.line = s.hwi.line ∨ ∀ c : Chan, (t.chan c).tx.onLine = false
  chan : ∀ c : Chan, (s.chan c).Silent (t.chan c)

namespace Silent

/-- What changes no channel and leaves the line. -/
theorem elsewhere {s t : State} (line : t.hwi.line = s.hwi.line := by rfl) (chans : t.chans = s.chans := by rfl) :
    Silent s t :=
  ⟨.inl line, fun c => by rw [State.chan, State.chan, chans]; exact .same _⟩

theorem same (s : State) : Silent s s := elsewhere

theorem trans {s t u : State} (h : Silent s t) (k : Silent t u) : Silent s u := by
  refine ⟨?_, fun c => (h.chan c).trans (k.chan c)⟩
  rcases k.line with hline | hoff
  · rcases h.line with hline' | hoff
    · exact .inl (hline.trans hline')
    · refine .inr fun c => Bool.eq_false_of_not_eq_true fun hon => ?_
      have hon' := ((k.chan c).onLine hon).1
      rw [hoff c] at hon'
      cases hon'
  · exact .inr hoff

/-- An operation on one channel. -/
theorem setChan {s t : State} (h : Silent s t) (c : Chan) {ch : Channel} (hch : (t.chan c).Silent ch) :
    Silent s (t.setChan c ch) := by
  refine h.trans ⟨.inl rfl, fun d => ?_⟩
  by_cases hd : d = c
  · subst hd
    rwa [State.chan_setChan_same]
  · have htouch : TouchesOnly c t (t.setChan c ch) := .modChan c t fun _ => ch
    rw [htouch.chan d hd]
    exact .same _

theorem modChan {s t : State} (h : Silent s t) (c : Chan) {f : Channel → Channel}
    (hf : (t.chan c).Silent (f (t.chan c)) := by exact .of_tx) : Silent s (t.modChan c f) :=
  h.setChan c hf

theorem mapChans {s t : State} (h : Silent s t) {f : Channel → Channel}
    (hf : ∀ c : Chan, (t.chan c).Silent (f (t.chan c)) := by exact fun _ => .of_tx) : Silent s (t.mapChans f) := by
  refine h.trans ⟨.inl rfl, fun c => ?_⟩
  rw [State.chan_mapChans]
  exact hf c

/-- One operation after another. -/
theorem foldl {α : Type} {f : State → α → State} (hf : ∀ s a, Silent s (f s a)) (l : List α) (s : State) :
    Silent s (l.foldl f s) := by
  induction l generalizing s with
  | nil => exact same s
  | cons a l ih => exact (hf s a).trans (ih (f s a))

theorem finish {s t : State} (h : Silent s t) : Ensures (finish t) (Silent s) := .next (h.trans elsewhere)

theorem finishDevice {s t : State} (h : Silent s t) (r : CmdResult) : Ensures (finishDevice t r) (Silent s) :=
  .next (h.trans elsewhere)

theorem finishChannel {s t : State} (h : Silent s t) (r : CmdResult) : Ensures (finishChannel t r) (Silent s) :=
  .next (h.trans elsewhere)

theorem tableAccess {s act : State} {tables : List Nat} (h : Silent s act) :
    Ensures (tableAccess s tables act) (Silent s) := tableAccess_ensures s (same s) fun _ _ => h.trans elsewhere

section
variable (s : State) (c : Chan)

/-! ### Link operations (05 section 5.2 to 5.6) -/

theorem queueRequest (op : Opcode) : Silent s (s.queueRequest c op) := elsewhere

theorem queueResponse (op : Opcode) (station channel : Address) (matched : Bool) :
    Silent s (s.queueResponse c op station channel matched) := by
  unfold State.queueResponse
  split
  · exact same s
  · exact elsewhere

theorem replyPeer (op : Opcode) : Silent s (s.replyPeer c op) := queueResponse s c op _ _ _

theorem closeConnected (cause : Cause) : Silent s (s.closeConnected c cause) := by
  rw [State.closeConnected_eq]
  exact (elsewhere).modChan c (.afterClearDown _ cause)

theorem closeUnconnected (cause : Cause) (h : (s.chan c).link.state.connected = false) :
    Silent s (s.closeUnconnected c cause) := by
  rw [State.closeUnconnected_eq]
  exact (elsewhere).modChan c (.afterGivingUp _ cause h)

theorem enterFault (cause : Cause) (h : (s.chan c).link.state = .opening) : Silent s (s.enterFault c cause) := by
  rw [State.enterFault_eq]
  exact (elsewhere).modChan c (.afterGivingUp _ cause (congrArg LinkState.connected h))

theorem enterOpen : Silent s (s.enterOpen c) := by
  rw [State.enterOpen_eq]
  exact (elsewhere).modChan c (.afterEntry _)

theorem startOpening (h : (s.chan c).link.state.connected = false) : Silent s (s.startOpening c) :=
  (queueRequest s c .open_).modChan c ((Channel.Silent.of_tx).trans (.moveTo_of_unconnected _ h))

theorem peerRestart : Silent s (s.peerRestart c) := by
  rw [State.peerRestart_eq_modChan]
  exact (elsewhere).modChan c (.afterRestart _)

theorem completeDrain : Silent s (s.completeDrain c) := by
  unfold State.completeDrain
  dsimp only
  split
  case h_1 => exact (queueRequest s c .close).modChan c ((Channel.Silent.of_tx).trans (.moveTo_connected _ rfl))
  case h_2 => exact (replyPeer s c .closeAck).trans (closeConnected _ c _)
  case h_3 => exact closeConnected s c _
  case h_4 => exact same s

theorem takeDrain : Silent s (s.takeDrain c) := by
  unfold State.takeDrain
  split
  · exact completeDrain s c
  · exact same s

theorem takeAnswerExpiry : Silent s (s.takeAnswerExpiry c) := by
  unfold State.takeAnswerExpiry
  dsimp only
  split_ifs with _ _ _ hopening
  · exact (queueRequest s c _).modChan c
  · exact enterFault s c _ hopening
  · exact closeConnected s c _
  · exact (same s).modChan c
  · exact same s

theorem takeProbeExpiry : Silent s (s.takeProbeExpiry c) := by
  unfold State.takeProbeExpiry
  split
  · exact (queueRequest s c .probe).modChan c
  · exact same s

theorem takeRefresh : Silent s s.takeRefresh := by
  unfold State.takeRefresh State.refreshMarks
  split
  · refine (elsewhere).mapChans fun d => ?_
    split
    · exact .of_tx
    · exact .same _
  · exact same s

theorem mapTest : Silent s s.mapTest := by
  rw [State.mapTest_frame]
  exact elsewhere

theorem takeDue : Silent s s.takeDue :=
  ((((mapTest s).trans (foldl takeAnswerExpiry _ _)).trans (foldl takeProbeExpiry _ _)).trans (takeRefresh _)).trans
    (foldl takeDrain _ _)

/-! ### Channel commands (05 R77, R78) -/

theorem closeCredit : Silent s (s.closeCredit c) := by
  have hdrained := (same s).modChan c (f := fun ch => ch.dropComposing.moveTo .drain)
    ((Channel.Silent.of_tx).trans (.moveTo_connected _ rfl))
  unfold State.closeCredit
  dsimp only
  split
  · exact hdrained.trans (completeDrain _ c)
  · exact hdrained

theorem closeStream : Silent s (s.closeStream c) := by
  have hdrained := (same s).modChan c (f := fun ch =>
    Channel.moveTo (if ch.tx.openMessage then { ch with tx := ch.tx.endOpenMessage } else ch) .drain) <| by
    refine Channel.Silent.trans ?_ (.moveTo_connected _ rfl)
    split
    · exact .endOpenMessage _
    · exact .same _
  unfold State.closeStream
  dsimp only
  split
  · exact hdrained.trans (completeDrain _ c)
  · exact hdrained

theorem closeUnopened (h : (s.chan c).link.state.connected = false) : Silent s (s.closeUnopened c) :=
  (closeUnconnected s c .closed h).trans elsewhere

theorem resetConnected : Silent s (s.resetConnected c) := by
  unfold State.resetConnected
  split
  · exact (queueRequest s c .reset).trans (closeConnected _ c _)
  · exact closeConnected s c _

/-! ### Received control words (05 section 5.4) -/

theorem matchedOpen : Silent s (s.matchedOpen c) := by
  unfold State.matchedOpen
  split
  case h_1 | h_2 => exact (replyPeer s c _).trans (enterOpen _ c)
  case h_3 => exact peerRestart s c
  case h_4 | h_5 | h_6 => exact (replyPeer s c _).trans (closeConnected _ c _)
  case h_7 | h_8 => exact replyPeer s c _

theorem matchedOpenAck : Silent s (s.matchedOpenAck c) := by
  unfold State.matchedOpenAck
  split
  case h_1 => exact enterOpen s c
  case h_2 => exact replyPeer s c _
  all_goals exact same s

theorem matchedClose : Silent s (s.matchedClose c) := by
  unfold State.matchedClose
  split
  case h_1 =>
    split
    · exact (replyPeer s c _).trans (closeConnected _ c _)
    · exact (same s).modChan c ((Channel.Silent.of_tx).trans (.moveTo_connected _ rfl))
  case h_2 => exact (same s).modChan c (.moveTo_connected _ rfl)
  case h_8 => exact same s
  all_goals exact replyPeer s c _

theorem matchedWord (op : Opcode) (v : BitVec 5) : Silent s (s.matchedWord c op v) := by
  cases op
  case open_ => exact matchedOpen s c
  case openAck => exact matchedOpenAck s c
  case close => exact matchedClose s c
  case closeAck =>
    unfold State.matchedWord State.matchedCloseAck
    dsimp only
    split
    · exact closeConnected s c _
    · exact same s
  case reset =>
    unfold State.matchedWord State.matchedReset
    dsimp only
    split
    case h_1 hst => exact enterFault s c _ hst
    case h_2 | h_3 | h_4 | h_5 => exact closeConnected s c _
    all_goals exact same s
  all_goals
    unfold State.matchedWord State.whenConnected
    dsimp only
    split
  case probe.isTrue => exact (same s).modChan c
  case wordLevel.isTrue | msgLevel.isTrue => exact (same s).modChan c (.endStarvation _ .of_tx)
  all_goals exact same s

theorem takeControl (source : Address) (w : Word) : Silent s (s.takeControl source w) := by
  unfold State.takeControl State.unmatchedWord
  dsimp only
  split_ifs
  · exact same s
  · exact elsewhere
  · exact matchedWord s _ _ _
  · exact (elsewhere : Silent s (s.countHw .unmatchedControl)).trans (queueResponse _ _ _ _ _ _)
  · exact elsewhere

theorem receiveControl (source : Address) (w : Received) : Silent s (s.receiveControl source w) := by
  unfold State.receiveControl
  split
  case h_1 | h_2 | h_3 => exact same s
  case h_4 => exact takeControl s _ _
  all_goals exact elsewhere

/-! ### Slots and frames -/

theorem screen (w : Received) : Silent s (s.screen w) := by
  unfold State.screen
  split <;> exact elsewhere

theorem disposeUnused (w : Received) : Silent s (s.disposeUnused w) := by
  unfold State.disposeUnused
  split <;> exact elsewhere

theorem receiveData (w : Received) : Silent s (s.receiveData c w) := by
  cases w with
  | checkError =>
    unfold State.receiveData
    dsimp only
    split
    · exact (same s).modChan c (.rxCheckError _)
    · exact same s
  | word k p =>
    cases hk : k.isData with
    | true =>
      rw [State.receiveData_data s c p hk]
      split
      · have hset := (same s).setChan c (.dataWord _ s.hwi.frame k)
        unfold State.takeData
        dsimp only
        split
        · exact hset.trans elsewhere
        · exact hset
      · exact elsewhere
    | false =>
      cases k
      case control => exact (elsewhere : Silent s (s.countHw .kindMismatches))
      case header | fill | idle => exact same s
      all_goals cases hk

theorem settleControl (clash : Bool) : Silent s (s.settleControl clash) := (elsewhere).mapChans

theorem modMark {s t : State} (h : Silent s t) {p : Fin 32} {f : Mark → Mark} : Silent s (t.modMark p f) := by
  unfold State.modMark
  refine h.modChan _ ?_
  split <;> exact .of_tx

theorem arbitrate : Silent s s.arbitrate.2 := by
  unfold State.arbitrate
  split
  · exact elsewhere
  · split
    · rename_i p _
      exact modMark (s := s) (t := { s with lnk := { s.lnk with lastPosition := p } }) elsewhere (p := p)
        (f := fun m => { m with chosen := true })
    · exact same s

theorem frameStart : Silent s s.frameStart := (elsewhere).mapChans

theorem checkHeader (line : SlotBits) : Silent s (s.checkHeader line) :=
  ⟨.inl (s.checkHeader_hwi line).1, fun _ => by
    unfold State.checkHeader
    split
    · split <;> exact .same _
    · exact .same _⟩

theorem inFollowerFrame : Silent s s.inFollowerFrame := by
  unfold State.inFollowerFrame
  split <;> exact elsewhere

theorem inMasterFrame : Silent s s.inMasterFrame := by
  unfold State.inMasterFrame
  split <;> exact elsewhere

/-! ### Highway losses (01 R13 to R16): the words of the sending sides leave the line -/

section
variable (hservice : ∀ c : Chan, (s.chan c).SendsInService)
include hservice

theorem loseHighway (dest : Sync) (pulse : Option Nat) : Silent s (s.loseHighway dest pulse) := by
  have hlost : ∀ d : Chan, (s.loseHighway dest pulse).chan d = (s.chan d).loseHighway :=
    fun d => State.chan_mapChans _ _ _
  refine ⟨.inr fun d => ?_, fun d => ?_⟩
  · rw [hlost]
    exact (hservice d).loseHighway_onLine
  · rw [hlost]
    exact .loseHighway _ (hservice d)

theorem loseLock (pulse : Option Nat) : Silent s (s.loseLock pulse) := by
  refine trans (t := (s.countHw .syncMisses).raise .lockLost) elsewhere (loseHighway _ ?_ _ _)
  exact hservice

theorem masterConflict : Silent s s.masterConflict := by
  refine trans (t := (s.lineFault .clashes).raise .masterConflict) elsewhere (loseHighway _ ?_ _ _)
  exact hservice

end

end

end Silent

end Sys2Proof.Machine
end

section
/-! SUPPORT. The commands of the host and the words on the line: they bring no word of a sending side on the line and
pay for none (06 R103, R105, 07 R114, R115, R122). -/

namespace Sys2Proof.Machine

-- One theorem after another, as in the tests: many at once ask for more threads than there are.
set_option Elab.async false

open Silent (same elsewhere)

/-- What moves the channels keeps the words of the sending sides in service. -/
theorem ChannelsMove.service {s t : State} (h : ChannelsMove s t) (hs : ∀ c : Chan, (s.chan c).SendsInService) :
    ∀ c : Chan, (t.chan c).SendsInService := fun c => (h c).keeps (fun _ _ => Channel.SendsInService.step) (hs c)

section
variable (s : State)

/-! ### Channel commands and CDATA accesses (05 R75 to R79, 07 R111 to R113, R119 to R121, 08 R139, R141) -/

theorem execChanOpen_silent : Ensures (execChanOpen s) (Silent s) := by
  have hrefuse := fun r => (same s).finishChannel r
  refine .live (same s) fun _ => ?_
  dsimp only
  split
  case h_1 hst _ =>
    split_ifs
    · exact hrefuse _
    · exact hrefuse _
    · exact (Silent.startOpening s _ (by rw [hst]; rfl)).finishChannel _
  case h_2 =>
    split_ifs
    · exact hrefuse _
    · exact hrefuse _
    · exact (Silent.enterOpen s _).finishChannel _
  case h_3 hst =>
    split_ifs
    · exact hrefuse _
    · exact (Silent.startOpening s _ (by rw [hst]; rfl)).finishChannel _
  case h_4 => exact hrefuse _

theorem execChanListen_silent : Ensures (execChanListen s) (Silent s) := by
  have hrefuse := fun r => (same s).finishChannel r
  refine .live (same s) fun _ => ?_
  dsimp only
  split_ifs with hst
  · exact hrefuse _
  · exact hrefuse _
  · exact hrefuse _
  · exact ((same s).modChan _ (.moveTo_of_unconnected _ (by rw [hst]; rfl))).finishChannel _
  · exact hrefuse _

theorem execChanClose_silent : Ensures (execChanClose s) (Silent s) := by
  refine .live (same s) fun _ => ?_
  dsimp only
  split
  case h_1 =>
    split
    · exact (Silent.closeCredit s _).finishChannel _
    · exact (Silent.closeStream s _).finishChannel _
  case h_2 hst | h_3 hst => exact (Silent.closeUnopened s _ (by rw [hst]; rfl)).finishChannel _
  all_goals exact (same s).finishChannel _

theorem execChanReset_silent : Ensures (execChanReset s) (Silent s) := by
  refine .live (same s) fun _ => ?_
  dsimp only
  split
  case h_1 hst =>
    have hidle := congrArg LinkState.connected hst
    exact ((Silent.queueRequest s _ .reset).trans (.closeUnconnected _ _ _ hidle)).finishChannel _
  case h_2 hst => exact (Silent.closeUnconnected s _ _ (by rw [hst]; rfl)).finishChannel _
  case h_3 | h_4 | h_5 | h_6 => exact (Silent.resetConnected s _).finishChannel _
  case h_7 | h_8 => exact (same s).finishChannel _

theorem execChanFlush_silent : Ensures (execChanFlush s) (Silent s) := by
  refine .live (same s) fun _ => ?_
  dsimp only
  split_ifs with hst
  · exact ((same s).modChan _ (.flush _ (by rcases hst with hst | hst <;> rw [hst] <;> rfl))).finishChannel _
  · exact (same s).finishChannel _

theorem execChanPost_silent : Ensures (execChanPost s) (Silent s) := by
  have hrefuse := fun r => (same s).finishChannel r
  refine .live (same s) fun _ => ?_
  split
  case h_1 =>
    unfold State.postCredit
    dsimp only
    split_ifs
    case neg => exact ((elsewhere).modChan _).finishChannel _
    all_goals exact hrefuse _
  case h_2 =>
    unfold State.postStream
    dsimp only
    split_ifs
    · exact ((same s).modChan _ (.endOpenMessage _)).finishChannel _
    · exact hrefuse _
    · exact hrefuse _

theorem execChanAbandon_silent : Ensures (execChanAbandon s) (Silent s) := by
  have hrefuse := fun r => (same s).finishChannel r
  refine .live (same s) fun _ => ?_
  split
  case h_1 =>
    unfold State.abandonCredit
    split_ifs
    · exact ((same s).modChan _ ).finishChannel _
    · exact hrefuse _
  case h_2 =>
    unfold State.abandonStream
    dsimp only
    split_ifs
    · exact ((same s).modChan _ (.abandonOpenMessage _)).finishChannel _
    · exact hrefuse _
    · exact hrefuse _

theorem execChanRelease_silent : Ensures (execChanRelease s) (Silent s) := by
  refine .live (same s) fun _ => ?_
  split
  case h_1 => exact (same s).finishChannel _
  case h_2 =>
    split_ifs
    · exact ((same s).modChan _ (.releaseHead _ _ _)).finishChannel _
    · exact (same s).finishChannel _

theorem execCdataWrite_silent (w : Word) : Ensures (execCdataWrite w s) (Silent s) := by
  refine .live (same s) fun _ => ?_
  dsimp only
  split_ifs
  · exact ((elsewhere).modChan _ (.appendWord _)).finish
  · exact .fault _
  · exact ((same s).modChan _).finish

theorem execCdataRead_silent : Ensures (execCdataRead s) (Silent s) := by
  have hnothing : Ensures (finish (s.readNothing s.host.selected)) (Silent s) :=
    (Silent.modChan (s := s) (t := s.returns 0) elsewhere _).finish
  refine .live (same s) fun _ => ?_
  dsimp only
  split
  case h_1 => exact hnothing
  case h_2 =>
    split_ifs
    · exact ((elsewhere).modChan _).finish
    · exact .fault _
    · exact hnothing

/-! ### Device commands and register writes -/

theorem execStart_silent : Ensures (execStart s) (Silent s) := by
  refine .live (same s) fun _ => ?_
  split
  · refine Silent.finishDevice (t := s.startHighway) ?_ _
    unfold State.startHighway
    dsimp only
    split <;> exact elsewhere
  all_goals exact (same s).finishDevice _

theorem execStop_silent (hservice : ∀ c : Chan, (s.chan c).SendsInService) : Ensures (execStop s) (Silent s) := by
  have hdue := (ChannelsMove.takeDue s).service hservice
  refine .live (same s) fun _ => ?_
  split
  · exact (same s).finishDevice _
  · exact (elsewhere).finishDevice _
  all_goals exact ((Silent.takeDue s).trans (.loseHighway _ hdue _ _)).finishDevice _

theorem execSwitch_silent : Ensures (execSwitch s) (Silent s) := by
  refine .live (same s) fun _ => ?_
  split_ifs <;> exact (elsewhere).finishDevice _

theorem execCancel_silent : Ensures (execCancel s) (Silent s) := by
  refine .live (same s) fun _ => ?_
  split_ifs <;> exact (elsewhere).finishDevice _

theorem execPopcq_silent : Ensures (execPopcq s) (Silent s) := by
  refine .live (same s) fun _ => ?_
  split <;> exact (elsewhere).finishDevice _

theorem execUnknownCommandCode_silent (port : CmdPort) (w : Word) :
    Ensures (execUnknownCommandCode port w s) (Silent s) := by
  refine .live (same s) fun _ => ?_
  split
  · exact .next (same s)
  · cases port
    · exact (same s).finishDevice _
    · exact (same s).finishChannel _

theorem execHcfgWrite_silent (w : Word) : Ensures (execHcfgWrite w s) (Silent s) := by
  refine .live (same s) fun _ => ?_
  split
  · exact (elsewhere).finish
  · exact (same s).finishDevice _

theorem execHdivWrite_silent (w : Word) : Ensures (execHdivWrite w s) (Silent s) := by
  refine .live (same s) fun _ => ?_
  split
  · exact (elsewhere).finish
  · exact (same s).finishDevice _

theorem execTimingWrite_silent (w : Word) : Ensures (execTimingWrite w s) (Silent s) := by
  refine .live (same s) fun _ => ?_
  split
  · exact (same s).finishDevice _
  · exact (elsewhere).finish

theorem execTiming2Write_silent (w : Word) : Ensures (execTiming2Write w s) (Silent s) := by
  refine .live (same s) fun _ => ?_
  split
  · exact (same s).finishDevice _
  · exact ((elsewhere).mapChans).finish

theorem execCqthrWrite_silent (w : Word) : Ensures (execCqthrWrite w s) (Silent s) := by
  refine .live (same s) fun _ => ?_
  dsimp only
  split
  · exact (elsewhere).finish
  · exact (same s).finishDevice _

theorem execTselWrite_silent (w : Word) : Ensures (execTselWrite w s) (Silent s) := by
  refine .live (same s) fun _ => ?_
  split
  · exact (elsewhere).finish
  · exact (same s).finishDevice _

theorem execRegisterWrite_silent (r : PlainReg) (w : Word) :
    Ensures (execRegisterWrite r w s) (Silent s) := by
  refine .live (same s) fun _ => ?_
  cases r
  case darg => exact (elsewhere).finish
  case ctag => exact ((same s).modChan _).finish
  case chsel => exact (elsewhere).finish
  all_goals exact (same s).finish

/-! ### Table accesses -/

theorem execPendingBankWrite_silent (w : Word) : Ensures (execPendingBankWrite w s) (Silent s) := by
  refine Silent.tableAccess ?_
  unfold State.writePending
  split
  · exact elsewhere
  · split <;> exact elsewhere

theorem execRegionTableWrite_silent (w : Word) : Ensures (execRegionTableWrite w s) (Silent s) := by
  refine Silent.tableAccess ?_
  unfold State.writeRegion
  dsimp only
  split
  · exact elsewhere
  · split
    · refine (same s).modChan _ ?_
      split <;> exact .of_tx
    · exact elsewhere

theorem execConfigWordWrite_silent (hservice : ∀ c : Chan, (s.chan c).SendsInService) (w : Word) :
    Ensures (execConfigWordWrite w s) (Silent s) := by
  refine Silent.tableAccess ?_
  unfold State.writeConfig
  dsimp only
  split
  case h_1 => exact elsewhere
  case h_2 g hwritten =>
    split
    · exact elsewhere
    · rename_i hfree
      rw [not_and_or, Bool.not_eq_false] at hfree
      exact (same s).modChan _ (.configure _ (hservice _) hwritten hfree)

theorem execChannelCounterRead_silent : Ensures (execChannelCounterRead s) (Silent s) :=
  Silent.tableAccess (Silent.modChan (t := s.returnTable) elsewhere _)

theorem execHighwayCounterRead_silent : Ensures (execHighwayCounterRead s) (Silent s) :=
  Silent.tableAccess elsewhere

theorem execTableRead_silent : Ensures (execTableRead s) (Silent s) := Silent.tableAccess elsewhere

end

end Sys2Proof.Machine
end

section
/-! SUPPORT. The commands of the highway and the words on the line: the losses, the reports and the offers (01 R13 to
R16, 06 R103, 07 R114, R115, R117, R122 to R124). -/

namespace Sys2Proof.Machine

-- One theorem after another, as in the tests: many at once ask for more threads than there are.
set_option Elab.async false

open Silent (same elsewhere)

/-! ### What the word on the line says of the channels -/

section
variable {s : State} (h : LineAgrees s)
include h

theorem LineAgrees.service (c : Chan) : (s.chan c).SendsInService := fun hon =>
  (h c hon).imp (fun ⟨_, _, hconnected⟩ => hconnected) fun ⟨_, _, hsends⟩ => hsends

/-- A word of a channel's sending side is on the line only where the line says so. -/
theorem LineAgrees.off {c : Chan} (hcredit : ∀ bits, s.hwi.line ≠ some ⟨bits, .creditData c⟩)
    (hstream : ∀ bits, s.hwi.line ≠ some ⟨bits, .streamWord c⟩) : (s.chan c).tx.onLine = false := by
  refine Bool.eq_false_of_not_eq_true fun hon => ?_
  rcases h c hon with ⟨bits, hline, -⟩ | ⟨bits, hline, -⟩
  · exact hcredit bits hline
  · exact hstream bits hline

theorem LineAgrees.off_of_none (hline : s.hwi.line = none) (c : Chan) : (s.chan c).tx.onLine = false :=
  h.off (fun _ => by rw [hline]; exact nofun) fun _ => by rw [hline]; exact nofun

end

/-- With no word of a sending side on the line, the line itself may change. -/
theorem Silent.of_off {s t : State} (off : ∀ c : Chan, (s.chan c).tx.onLine = false)
    (chan : ∀ c : Chan, (s.chan c).Silent (t.chan c)) : Silent s t := by
  refine ⟨.inr fun c => Bool.eq_false_of_not_eq_true fun hon => ?_, chan⟩
  have hon' := ((chan c).onLine hon).1
  rw [off c] at hon'
  cases hon'

/-- A report takes the word of its channel from the line, and there was no other. -/
theorem Silent.of_ended {s t : State} (c : Chan) (off : ∀ d : Chan, d ≠ c → (s.chan d).tx.onLine = false)
    (others : ∀ d : Chan, d ≠ c → t.chan d = s.chan d) (ended : (t.chan c).tx.onLine = false)
    (settled : (s.chan c).Settled → (t.chan c).Settled) : Silent s t := by
  refine ⟨.inr fun d => ?_, fun d => ?_⟩ <;> by_cases hd : d = c
  · exact hd ▸ ended
  · rw [others d hd]
    exact off d hd
  · exact hd ▸ .of_off ended settled
  · rw [others d hd]
    exact .same _

/-- No word came on the line, and those that are there may be sent: so the line agrees as before. -/
theorem Silent.lineAgrees {s t : State} (h : Silent s t) (hs : LineAgrees s)
    (ht : ∀ c : Chan, (t.chan c).SendsInService) : LineAgrees t := by
  intro c hon
  obtain ⟨hon', hmode⟩ := (h.chan c).onLine hon
  have hline : t.hwi.line = s.hwi.line := h.line.resolve_right fun hoff => by
    rw [hoff c] at hon
    cases hon
  rw [hline]
  rcases hs c hon' with ⟨bits, howner, hconnected⟩ | ⟨bits, howner, hstream, -⟩
  · refine .inl ⟨bits, howner, (ht c hon).resolve_right fun hsends => ?_⟩
    rw [hmode, ((s.chan c).creditConnected_iff.mp hconnected).1] at hsends
    cases hsends.1
  · refine .inr ⟨bits, howner, (ht c hon).resolve_left fun hconnected => ?_⟩
    rw [Channel.creditConnected_of_stream (hmode.trans hstream)] at hconnected
    cases hconnected

/-! ### The reports (07 R115, R123) -/

section
variable (s : State) (c : Chan) (clash : Bool)

/-- The end of a slot takes the word from the line and touches no channel. -/
@[simp] theorem State.endLine_chan : (s.endLine clash).chan c = s.chan c := by
  unfold State.endLine
  dsimp only
  split <;> rfl

/-- The report on a credit channel's word notes it gone, touches no other channel, and pays for it only where it was on
the line. -/
theorem State.reportCredit_ends : (∀ d, d ≠ c → (s.reportCredit c clash).chan d = s.chan d) ∧
    ((s.reportCredit c clash).chan c).tx.onLine = false ∧
    (((s.chan c).tx.onLine = true → (s.chan c).creditConnected = true) →
      (s.chan c).Settled → ((s.reportCredit c clash).chan c).Settled) := by
  have hother : ∀ (t : State) (ch : Channel) (d : Chan), d ≠ c → (t.setChan c ch).chan d = t.chan d :=
    fun t ch d hd => (TouchesOnly.modChan c t fun _ => ch : TouchesOnly c t (t.modChan c fun _ => ch)).chan d hd
  by_cases hgone : (s.chan c).tx.onLine = false ∨ (s.chan c).tx.messages = []
  · rw [State.reportCredit_gone clash hgone, State.chan_setChan_same]
    exact ⟨hother _ _, rfl, fun _ => id⟩
  · rw [not_or, Bool.not_eq_false] at hgone
    obtain ⟨hon, hlisted⟩ := hgone
    obtain ⟨m, rest, hcons⟩ := List.exists_cons_of_ne_nil hlisted
    by_cases hlast : m.sent + 1 = m.length
    · rw [State.reportCredit_last clash hon hcons hlast, State.chan_setChan_same]
      exact ⟨hother _ _, rfl, fun hpays _ => .inl (hpays hon)⟩
    · rw [State.reportCredit_more clash hon hcons hlast, State.chan_setChan_same]
      exact ⟨hother _ _, rfl, fun hpays _ => .inl (hpays hon)⟩

theorem Channel.reportStreamWord_ends (ch : Channel) :
    ch.reportStreamWord.tx.onLine = false ∧ (ch.Settled → ch.reportStreamWord.Settled) := by
  unfold Channel.reportStreamWord
  split
  · exact ⟨rfl, id⟩
  · rename_i hoff
    exact ⟨Bool.eq_false_of_not_eq_true hoff, id⟩

end

section
variable (s : State)

/-! ### Synchronisation and frames -/

theorem execAcquirePulse_silent (clock : Nat) : Ensures (execAcquirePulse clock s) (Silent s) := by
  refine .live (same s) fun _ => ?_
  split_ifs
  · exact (elsewhere).finish
  · exact (elsewhere).finish
  · exact .next (same s)
  · exact .next (same s)

theorem execCandidateHeader_silent (line : SlotBits) : Ensures (execCandidateHeader line s) (Silent s) := by
  have ht := Silent.takeDue s
  refine .live (same s) fun _ => ?_
  dsimp only
  generalize s.takeDue = t at ht ⊢
  split_ifs
  · split
    · exact ((ht.trans elsewhere).trans (.frameStart _)).finish
    · exact (ht.trans elsewhere).finish
  · exact .next (same s)

theorem execSyncMiss_silent : Ensures (execSyncMiss s) (Silent s) := by
  have ht := Silent.takeDue s
  refine .live (same s) fun _ => ?_
  dsimp only
  generalize s.takeDue = t at ht ⊢
  split_ifs
  · exact (ht.trans elsewhere).finish
  · exact .next (same s)

theorem execHoldoverMiss_silent (h : LineAgrees s) : Ensures (execHoldoverMiss s) (Silent s) := by
  have hservice := (ChannelsMove.takeDue s).service h.service
  refine .live (same s) fun _ => ?_
  split_ifs
  · exact ((Silent.takeDue s).trans (.loseLock _ hservice _)).finish
  · exact .next (same s)

theorem execMisplacedPulse_silent (h : LineAgrees s) (bit : Nat) : Ensures (execMisplacedPulse bit s) (Silent s) := by
  have ht := Silent.takeDue s
  have hservice := (ChannelsMove.takeDue s).service h.service
  refine .live (same s) fun _ => ?_
  dsimp only
  generalize s.takeDue = t at ht hservice ⊢
  have hnoted : ∀ k, Silent s (t.noteHsync k) := fun _ => ht.trans elsewhere
  split_ifs
  · exact ((hnoted _).trans (.loseLock (t.noteHsync _) hservice _)).finish
  · exact (hnoted _).finish
  · exact .next (same s)
  · exact .next (same s)

theorem execPulseAtExpectedBit_silent : Ensures (execPulseAtExpectedBit s) (Silent s) := by
  have ht := Silent.takeDue s
  refine .live (same s) fun _ => ?_
  dsimp only
  generalize s.takeDue = t at ht ⊢
  split_ifs
  · exact (ht.trans elsewhere).finish
  · exact (ht.trans elsewhere).finish
  · exact .next (same s)
  · exact .next (same s)

theorem execFollowerHeaderSlot_silent (line : SlotBits) :
    Ensures (execFollowerHeaderSlot line s) (Silent s) := by
  have hframe := (Silent.takeDue s).trans (.inFollowerFrame _)
  refine .live (same s) fun _ => ?_
  split_ifs
  · exact ((hframe.trans (.checkHeader _ line)).trans (.frameStart _)).finish
  · exact .next (same s)

theorem execMasterHeaderSlot_silent (h : LineAgrees s) (line : SlotBits) :
    Ensures (execMasterHeaderSlot line s) (Silent s) := by
  have hframe := (Silent.takeDue s).trans (.inMasterFrame _)
  have hservice := ((ChannelsMove.takeDue s).trans (.inMasterFrame _)).service h.service
  refine .live (same s) fun _ => ?_
  dsimp only
  split_ifs
  · exact (hframe.trans (.masterConflict _ hservice)).finish
  · exact (hframe.trans (.frameStart _)).finish
  · exact .next (same s)

/-! ### Slots -/

theorem execTxdataReport_silent (h : LineAgrees s) (line : SlotBits) :
    Ensures (execTxdataReport line s) (Silent s) := by
  refine .live (same s) fun _ => ?_
  split
  · exact .next (same s)
  · rename_i l hline
    obtain ⟨bits, owner⟩ := l
    -- Where the line is another's, no channel has a word on it.
    have hoff : ∀ d, owner ≠ .creditData d → owner ≠ .streamWord d → (s.chan d).tx.onLine = false :=
      fun d hcredit hstream =>
        h.off (fun _ => by rw [hline]; simp [hcredit]) fun _ => by rw [hline]; simp [hstream]
    dsimp only
    split
    case h_1 c =>
      obtain ⟨hothers, hended, hpaid⟩ := (s.endLine (clashed bits line)).reportCredit_ends c (clashed bits line)
      simp only [State.endLine_chan] at hothers hpaid
      refine (Silent.of_ended c (fun d hd => hoff d (by simp [Ne.symm hd]) (by simp)) hothers hended ?_).finish
      refine hpaid fun hon => ?_
      rcases h c hon with ⟨_, -, hconnected⟩ | ⟨_, howner, -⟩
      · exact hconnected
      · rw [hline] at howner
        cases howner
    case h_2 c =>
      obtain ⟨hended, hpaid⟩ := (s.chan c).reportStreamWord_ends
      refine (Silent.of_ended c (fun d hd => hoff d (by simp) (by simp [Ne.symm hd])) (fun d hd => ?_) ?_ ?_).finish
      · rw [(TouchesOnly.modChan c _ _).chan d hd, State.endLine_chan]
      · rw [State.chan_modChan_same, State.endLine_chan]
        exact hended
      · rw [State.chan_modChan_same, State.endLine_chan]
        exact hpaid
    case h_3 c =>
      refine (Silent.of_off (fun d => hoff d (by simp) (by simp)) fun d => ?_).finish
      have hcounted := (same (s.endLine (clashed bits line))).modChan c (f := fun ch => ch.count .underruns)
      simpa only [State.endLine_chan] using hcounted.chan d
    case h_4 =>
      refine (Silent.of_off (fun d => hoff d (by simp) (by simp)) fun d => ?_).finish
      rw [State.endLine_chan]
      exact .same _
    case h_5 => exact .next (same s)

theorem execTxcontrolOffer_silent (h : LineAgrees s) (n : Slot) : Ensures (execTxcontrolOffer n s) (Silent s) := by
  have ht := Silent.takeDue s
  have hhwi := s.takeDue_hwi
  refine .live (same s) fun _ => ?_
  dsimp only
  generalize s.takeDue = t at ht hhwi ⊢
  split
  · rename_i hready _
    have hoff := h.off_of_none (hhwi ▸ ((t.slotReady_iff n).mp hready).2.1)
    have harb := ht.trans (.arbitrate t)
    split
    · rename_i payload t1 ht1
      rw [ht1] at harb
      exact (Silent.of_off (t := t1.drive n (slotWord .control payload) .control) hoff harb.chan).finish
    · rename_i t1 ht1
      rw [ht1] at harb
      exact (Silent.of_off (t := t1.enterSlot n) hoff harb.chan).finish
  · exact .next (same s)

theorem execTxcontrolReport_silent (h : LineAgrees s) (line : SlotBits) :
    Ensures (execTxcontrolReport line s) (Silent s) := by
  refine .live (same s) fun _ => ?_
  split
  · exact .next (same s)
  · rename_i l hline
    split
    case h_1 howner =>
      have hoff : ∀ d, (s.chan d).tx.onLine = false := fun d =>
        h.off (fun _ => by rw [hline]; rintro ⟨⟩; cases howner) fun _ => by rw [hline]; rintro ⟨⟩; cases howner
      refine (Silent.of_off hoff fun d => ?_).finish
      simpa only [State.endLine_chan] using (Silent.settleControl (s.endLine (clashed l.bits line)) _).chan d
    all_goals exact .next (same s)

/-- A slot begins after the steps that are due. -/
theorem Silent.takeDue_enterSlot (n : Slot) : Silent s (s.takeDue.enterSlot n) := by
  have ht := takeDue s
  generalize s.takeDue = t at ht ⊢
  exact ht.trans elsewhere

/-- What comes before a received word is handed on. -/
theorem Silent.screened (n : Slot) (w : Received) : Silent s ((s.takeDue.enterSlot n).screen w) :=
  (takeDue_enterSlot s n).trans (screen _ w)

theorem execRxdataWord_silent (n : Slot) (line : SlotBits) :
    Ensures (execRxdataWord n line s) (Silent s) := by
  intro t ht
  rcases execRxdataWord_next ht with rfl | ⟨c, -, rfl⟩
  · exact same t
  · exact ((Silent.screened s n _).trans (.receiveData _ c _)).trans elsewhere

theorem execRxcontrolWord_silent (n : Slot) (line : SlotBits) :
    Ensures (execRxcontrolWord n line s) (Silent s) := by
  refine .live (same s) fun _ => ?_
  dsimp only
  split
  · exact ((Silent.screened s n _).trans (.receiveControl _ _ _)).finish
  · exact .next (same s)

theorem execUnusedSlotWord_silent (n : Slot) (line : SlotBits) :
    Ensures (execUnusedSlotWord n line s) (Silent s) := by
  refine .live (same s) fun _ => ?_
  dsimp only
  split
  · exact ((Silent.takeDue_enterSlot s n).trans (.disposeUnused _ _)).finish
  · exact .next (same s)

end

/-! ### Every command -/

/-- Every command but the offer of a data slot and the resets brings no word of a sending side on the line. -/
theorem exec_silent (i : Instr) {s : State} (h : LineAgrees s) (hoffer : ∀ n, i ≠ .txdataOffer n)
    (hsoft : i ≠ .softreset) (hpin : i ≠ .resetPin true) : Ensures (exec i s) (Silent s) := by
  cases i
  case start => exact execStart_silent s
  case stop => exact execStop_silent s h.service
  case switch => exact execSwitch_silent s
  case cancel => exact execCancel_silent s
  case popcq => exact execPopcq_silent s
  case softreset => exact absurd rfl hsoft
  case unknownCommandCode port w => exact execUnknownCommandCode_silent s port w
  case chanOpen => exact execChanOpen_silent s
  case chanListen => exact execChanListen_silent s
  case chanClose => exact execChanClose_silent s
  case chanReset => exact execChanReset_silent s
  case chanFlush => exact execChanFlush_silent s
  case chanPost => exact execChanPost_silent s
  case chanAbandon => exact execChanAbandon_silent s
  case chanRelease => exact execChanRelease_silent s
  case cdataWrite w => exact execCdataWrite_silent s w
  case cdataRead => exact execCdataRead_silent s
  case hcfgWrite w => exact execHcfgWrite_silent s w
  case hdivWrite w => exact execHdivWrite_silent s w
  case devpendWrite w => exact .live (same s) fun _ => (elsewhere).finish
  case devenWrite w => exact .live (same s) fun _ => (elsewhere).finish
  case ceventWrite w => exact .live (same s) fun _ => ((same s).modChan _).finish
  case timingWrite w => exact execTimingWrite_silent s w
  case timing2Write w => exact execTiming2Write_silent s w
  case cqthrWrite w => exact execCqthrWrite_silent s w
  case tselWrite w => exact execTselWrite_silent s w
  case pendingBankWrite w => exact execPendingBankWrite_silent s w
  case regionTableWrite w => exact execRegionTableWrite_silent s w
  case configWordWrite w => exact execConfigWordWrite_silent s h.service w
  case channelCounterRead => exact execChannelCounterRead_silent s
  case highwayCounterRead => exact execHighwayCounterRead_silent s
  case tableRead => exact execTableRead_silent s
  case tableWriteIgnored w => exact Silent.tableAccess (same s)
  case registerWrite r w => exact execRegisterWrite_silent s r w
  case resetPin asserted =>
    cases asserted
    · exact .next elsewhere
    · exact absurd rfl hpin
  case acquirePulse clock => exact execAcquirePulse_silent s clock
  case candidateHeader line => exact execCandidateHeader_silent s line
  case syncMiss => exact execSyncMiss_silent s
  case holdoverMiss => exact execHoldoverMiss_silent s h
  case misplacedPulse bit => exact execMisplacedPulse_silent s h bit
  case followerHeaderSlot line => exact execFollowerHeaderSlot_silent s line
  case masterHeaderSlot line => exact execMasterHeaderSlot_silent s h line
  case mapSwitch => exact .live (same s) fun _ => (Silent.mapTest s).finish
  case answerTimerExpiry c => exact .live (same s) fun _ => (Silent.takeAnswerExpiry s c).finish
  case probeTimerExpiry c => exact .live (same s) fun _ => (Silent.takeProbeExpiry s c).finish
  case refreshTimerExpiry => exact .live (same s) fun _ => (Silent.takeRefresh s).finish
  case txdataOffer n => exact absurd rfl (hoffer n)
  case txdataReport line => exact execTxdataReport_silent s h line
  case drainCompletion c => exact .live (same s) fun _ => (Silent.takeDrain s c).finish
  case txcontrolOffer n => exact execTxcontrolOffer_silent s h n
  case txcontrolReport line => exact execTxcontrolReport_silent s h line
  case rxdataWord n line => exact execRxdataWord_silent s n line
  case rxcontrolWord n line => exact execRxcontrolWord_silent s n line
  case unusedSlotWord n line => exact execUnusedSlotWord_silent s n line
  case pulseAtExpectedBit => exact execPulseAtExpectedBit_silent s

end Sys2Proof.Machine
end

section
/-! SUPPORT. The offer of a data slot and the resets, and the credit bounds in every step (06 R95, R97, R105). -/

namespace Sys2Proof.Machine

-- One theorem after another, as in the tests: many at once ask for more threads than there are.
set_option Elab.async false

/-- The line agrees with the sending sides, and the account of the words sent is settled on every channel. -/
structure LineSettled (s : State) : Prop where
  line : LineAgrees s
  chan : ∀ c : Chan, (s.chan c).Settled

namespace LineSettled

/-- With no word of a sending side on the line there is nothing for the line to say. -/
theorem of_off {s : State} (off : ∀ c : Chan, (s.chan c).tx.onLine = false) (chan : ∀ c : Chan, (s.chan c).Settled) :
    LineSettled s := by
  refine ⟨fun c hon => ?_, chan⟩
  rw [off c] at hon
  cases hon

theorem of_silent {s t : State} (hs : LineSettled s) (h : Silent s t) (ht : ∀ c : Chan, (t.chan c).SendsInService) :
    LineSettled t := ⟨h.lineAgrees hs.line ht, fun c => (h.chan c).settled (hs.chan c)⟩

theorem finish {s : State} (h : LineSettled s) : Ensures (finish s) LineSettled := .next ⟨h.line, h.chan⟩

/-- An answer driven on a free line: the word is that of the slot's channel, and the line says so. -/
theorem drive {t : State} {n : Slot} {c : Chan} {a : Answer} (hoff : ∀ d : Chan, (t.chan d).tx.onLine = false)
    (hsettled : ∀ d : Chan, (t.chan d).Settled) (ha : (t.chan c).offer c = some a) (bits : SlotBits) :
    LineSettled ((t.setChan c a.after).drive n bits a.owner) := by
  obtain ⟨hafter, hnew⟩ := (t.chan c).offer_answer ha
  have hsame : ((t.setChan c a.after).drive n bits a.owner).chan c = a.after := State.chan_setChan_same t c a.after
  have hother : ∀ d, d ≠ c → ((t.setChan c a.after).drive n bits a.owner).chan d = t.chan d :=
    fun d hd => (TouchesOnly.modChan c t fun _ => a.after : TouchesOnly c t (t.setChan c a.after)).chan d hd
  have hconnected : a.after.creditConnected = (t.chan c).creditConnected :=
    Channel.creditConnected_of_timed (Channel.offer_timed _ ha)
  refine ⟨fun d hon => ?_, fun d => ?_⟩ <;> by_cases hd : d = c
  · subst hd
    rw [hsame] at hon ⊢
    have hconfig : a.after.config = (t.chan d).config := by rw [hafter]
    have hlink : a.after.link = (t.chan d).link := by rw [hafter]
    rcases hnew (hoff d) hon with ⟨howner, hcredit⟩ | ⟨howner, hmode, hsends⟩
    · exact .inl ⟨bits, congrArg (fun o => some (⟨bits, o⟩ : LineWord)) howner, hconnected.trans hcredit⟩
    · refine .inr ⟨bits, congrArg (fun o => some (⟨bits, o⟩ : LineWord)) howner, (congrArg _ hconfig).trans hmode, ?_⟩
      rw [Channel.streamSending, hlink]
      exact hsends
  · rw [hother d hd, hoff d] at hon
    cases hon
  · subst hd
    rw [hsame, Channel.Settled, hconnected, hafter]
    exact hsettled d
  · rw [hother d hd]
    exact hsettled d

end LineSettled

section
variable {s : State} (h : LineSettled s)
include h

theorem execTxdataOffer_lineSettled (n : Slot) : Ensures (execTxdataOffer n s) LineSettled := by
  have ht := Silent.takeDue s
  have hhwi := s.takeDue_hwi
  refine .live h fun _ => ?_
  dsimp only
  generalize s.takeDue = t at ht hhwi ⊢
  have hsettled : ∀ d, (t.chan d).Settled := fun d => (ht.chan d).settled (h.chan d)
  split
  · rename_i c hready _
    have hnone : s.hwi.line = none := hhwi ▸ ((t.slotReady_iff n).mp hready).2.1
    have hoff : ∀ d, (t.chan d).tx.onLine = false := fun d => Bool.eq_false_of_not_eq_true fun hon => by
      have hon' := ((ht.chan d).onLine hon).1
      rw [h.line.off_of_none hnone d] at hon'
      cases hon'
    split
    · rename_i a ha
      have hdriven := LineSettled.drive (n := n) hoff hsettled ha
      unfold State.driveAnswer
      split
      · exact (hdriven _).finish
      · split_ifs
        · exact (hdriven _).finish
        · exact .fault _
    · exact (LineSettled.of_off (s := t.enterSlot n) hoff hsettled).finish
  · exact .next h

/-- SOFTRESET takes every word from the line and zeroes the accounts (11 R175). -/
theorem execSoftreset_lineSettled : Ensures (execSoftreset s) LineSettled := by
  have hsoft : ∀ c : Chan, s.softReset.chan c = (s.chan c).softReset := fun c => State.chan_mapChans _ _ _
  refine .live h fun _ => .next (LineSettled.of_off (fun c => ?_) fun c => ?_)
  · exact (congrArg (fun ch => ch.tx.onLine) (hsoft c) :)
  · have hcredits : (s.softReset.chan c).credits = Credits.zero := congrArg Channel.credits (hsoft c)
    exact .inr ⟨(congrArg Credits.wordUsed hcredits :), (congrArg Credits.msgUsed hcredits :)⟩

/-- Every command keeps the line and the accounts of the words sent. -/
theorem exec_lineSettled (i : Instr) : Ensures (exec i s) LineSettled := by
  by_cases hoffer : ∃ n, i = .txdataOffer n
  · obtain ⟨n, rfl⟩ := hoffer
    exact execTxdataOffer_lineSettled h n
  · by_cases hsoft : i = .softreset
    · subst hsoft
      exact execSoftreset_lineSettled h
    · by_cases hpin : i = .resetPin true
      · subst hpin
        have hreset : LineSettled State.reset :=
          .of_off (fun c => by rw [State.reset_chan]; rfl) fun c => by rw [State.reset_chan]; exact .inr ⟨rfl, rfl⟩
        exact .next ⟨hreset.line, hreset.chan⟩
      · intro t ht
        refine h.of_silent ?_ ((exec_channelsMove i s hsoft hpin t ht).service h.line.service)
        exact exec_silent i h.line (fun n hn => hoffer ⟨n, hn⟩) hsoft hpin t ht

theorem step_lineSettled {t : State} (hstep : step s = .next t) : LineSettled t := by
  unfold step at hstep
  split at hstep
  · cases hstep
    exact h
  · rename_i i rest _
    exact exec_lineSettled (s := { s with pending := rest }) ⟨h.line, h.chan⟩ i t hstep

end

/-- The bounds of a channel, in the words of the invariant and of what the steps keep. -/
theorem creditsBounded_iff (s : State) :
    CreditsBounded s ↔ ∀ c : Chan, (s.chan c).Accounted ∧ (s.chan c).Settled := by
  refine forall_congr' fun c => ⟨fun ⟨hwords, hmsgs, hrest⟩ => ?_, fun ⟨⟨⟨hwords, hmsgs⟩, hrest⟩, hsettled⟩ => ?_⟩
  · refine ⟨⟨⟨hwords, hmsgs⟩, fun hidle => by rw [hrest hidle]; rfl⟩, ?_⟩
    cases hidle : (s.chan c).creditConnected with
    | true => exact .inl hidle
    | false => exact .inr (by rw [hrest hidle]; exact ⟨rfl, rfl⟩)
  · refine ⟨hwords, hmsgs, fun hidle => ?_⟩
    obtain ⟨hword, hmsg⟩ := hsettled.resolve_left (by rw [hidle]; decide)
    have hzero := hrest hidle
    generalize (s.chan c).credits = k at hword hmsg hzero ⊢
    cases k
    simp only at hword hmsg
    subst hword hmsg
    exact hzero

/-- Settles O9: the steps on a channel keep the two bounds and the totals at rest, and the line and the accounts of the
words sent are kept by every command. -/
theorem creditBoundsHold : Obligations.CreditBoundsHold := by
  unfold Obligations.CreditBoundsHold
  intro s t hbounded hline hstep
  have hchannels := (creditsBounded_iff s).mp hbounded
  have hkept : LineSettled t := step_lineSettled ⟨hline, fun c => (hchannels c).2⟩ hstep
  have haccounted := step_accounted (fun c => (hchannels c).1) hstep
  exact ⟨(creditsBounded_iff t).mpr fun c => ⟨haccounted c, hkept.chan c⟩, hkept.line⟩

end Sys2Proof.Machine
end

section
/-! SUPPORT. The offer of a data slot to a credit channel (06 R103, 07 R114, Table 27). -/

namespace Sys2Proof.Machine

-- One theorem after another, as in the tests: many at once ask for more threads than there are.
set_option Elab.async false

/-- The credit allows a word with word credit, and one that starts a message with message credit (06 R103). -/
theorem Credits.allows_iff (k : Credits) (starts : Bool) :
    k.allows starts = true ↔
      1 ≤ (k.wordHeard - k.wordUsed).toNat ∧ (starts = true → 1 ≤ (k.msgHeard - k.msgUsed).toNat) := by
  rw [Credits.allows, Bool.and_eq_true, Bool.or_eq_true, decide_eq_true_eq, decide_eq_true_eq, Bool.not_eq_true',
    Credits.availableWords, Credits.availableMsgs]
  refine and_congr_right fun _ => ?_
  cases starts with
  | false => simp
  | true =>
    simp only [Bool.true_eq_false, false_or, forall_const]
    omega

section
variable {ch : Channel} (c : Chan)

/-- With credit for it, the word due of the head message goes on the line. -/
theorem Channel.offerCredit_sends {m : TxMessage} {rest : List TxMessage} (hconnected : ch.link.state.connected = true)
    (hlisted : ch.tx.messages = m :: rest) (hallows : ch.credits.allows (m.sent == 0) = true) :
    ch.offerCredit c = some {
      kind := creditKind m.length m.sent, source := some (ch.txRegion.wordAt ch.tx.free m.sent),
      owner := .creditData c, after := { ch with tx := { ch.tx with onLine := true } } } := by
  simp only [Channel.offerCredit, hconnected, hlisted, hallows, if_true]

/-- Without a connected state, a listed message or the credit for its word there is no answer. -/
theorem Channel.offerCredit_none (h : ch.link.state.connected = true → ∀ m rest, ch.tx.messages = m :: rest →
    ch.credits.allows (m.sent == 0) = false) : ch.offerCredit c = none := by
  unfold Channel.offerCredit
  split
  · rename_i hconnected
    split
    · rfl
    · rename_i m rest hlisted
      rw [if_neg (by rw [h hconnected m rest hlisted]; decide)]
  · rfl

end

section
variable {s : State} {n : Slot} {c : Chan} (hlive : s.resetPin = false) (hquiet : s.quiet = true)
  (hready : s.slotReady n = true) (huse : s.entryOf n = .txData c)
include hlive hquiet hready huse

/-- The slot's channel has an answer: it is driven. -/
theorem exec_txdataOffer_some {a : Answer} (h : (s.chan c).offer c = some a) :
    exec (.txdataOffer n) s = s.driveAnswer n c a := by
  refine (whenLive_live _ hlive).trans ?_
  rw [State.takeDue_of_quiet hquiet]
  simp only [hready, huse, h]

/-- The slot's channel has none: the slot begins, and nothing is driven. -/
theorem exec_txdataOffer_none (h : (s.chan c).offer c = none) :
    exec (.txdataOffer n) s = finish (s.enterSlot n) := by
  refine (whenLive_live _ hlive).trans ?_
  rw [State.takeDue_of_quiet hquiet]
  simp only [hready, huse, h]

end

/-- Settles O54: the word due is driven with the credit for it, and else nothing is. -/
theorem creditOfferSendsTheWordDue : Obligations.CreditOfferSendsTheWordDue := by
  unfold Obligations.CreditOfferSendsTheWordDue
  rintro s n c ch hlive hquiet hready huse rfl hmode
  have hoffer : (s.chan c).offer c = (s.chan c).offerCredit c := by simp only [Channel.offer, hmode]
  refine ⟨fun m rest addr k hconnected hlisted hword hmsg haddr hinside hk => ?_, fun hrefused => ?_⟩
  · have hallows : (s.chan c).credits.allows (m.sent == 0) = true :=
      (Credits.allows_iff _ _).mpr ⟨hword, fun hstarts => hmsg (by simpa using hstarts)⟩
    have hsource : (s.chan c).txRegion.wordAt (s.chan c).tx.free m.sent = addr := haddr.symm
    have hkind : creditKind m.length m.sent = k := hk.symm
    have hsends := Channel.offerCredit_sends c hconnected hlisted hallows
    rw [hsource, hkind] at hsends
    exact (exec_txdataOffer_some hlive hquiet hready huse (hoffer.trans hsends)).trans (if_pos hinside)
  · have hnone : (s.chan c).offerCredit c = none := by
      refine Channel.offerCredit_none c fun hconnected m rest hlisted => Bool.eq_false_of_not_eq_true fun hallows => ?_
      obtain ⟨hword, hmsg⟩ := (Credits.allows_iff _ _).mp hallows
      rcases hrefused with hst | hempty | hnoword | ⟨m', rest', hlisted', hstarts, hnomsg⟩
      · rw [hst] at hconnected
        cases hconnected
      · rw [hempty] at hlisted
        cases hlisted
      · simp [hnoword] at hword
      · obtain ⟨rfl, rfl⟩ : m = m' ∧ rest = rest' := by simpa using hlisted.symm.trans hlisted'
        simp [hnomsg, hstarts] at hmsg
    exact exec_txdataOffer_none hlive hquiet hready huse (hoffer.trans hnone)

end Sys2Proof.Machine
end

section
/-! SUPPORT. The accesses to CDATA: the words taken, the words refused, and the words read (07 R111, R119, R127, 08
R139). -/

namespace Sys2Proof.Machine

-- One theorem after another, as in the tests: many at once ask for more threads than there are.
set_option Elab.async false

/-! ### Which words are taken (07 R111, R119) -/

section
variable {ch : Channel}

theorem Channel.writeTaken_credit_iff (hmode : ch.config.mode = .credit) : ch.writeTaken = true ↔
    (ch.link.state = .listen ∨ ch.link.state = .opening ∨ ch.link.state = .opened) ∧ ch.tx.spoiled = false ∧
      ch.tx.composing < ch.config.maxLength ∧ ch.tx.held < ch.txRegion.capacity := by
  simp [Channel.writeTaken, hmode, and_assoc, or_assoc]

theorem Channel.writeTaken_stream_iff (hmode : ch.config.mode = .stream) :
    ch.writeTaken = true ↔ ch.link.state = .opened ∧ ch.tx.held < ch.txRegion.capacity := by
  simp [Channel.writeTaken, hmode]

theorem Channel.appendWord_credit (hmode : ch.config.mode = .credit) :
    ch.appendWord = { ch with tx := { ch.tx with composing := ch.tx.composing + 1 } } := by
  simp only [Channel.appendWord, hmode]

theorem Channel.appendWord_stream (hmode : ch.config.mode = .stream) :
    ch.appendWord = { ch with tx := { ch.tx with fifo := ch.tx.fifo ++ [false], openMessage := true } } := by
  simp only [Channel.appendWord, hmode]

/-- A refused write spoils a composing message that exists (07 R111). -/
theorem Channel.refuseWrite_credit (hmode : ch.config.mode = .credit) : ch.refuseWrite = { ch with
    tx := { ch.tx with spoiled := ch.tx.spoiled || decide (0 < ch.tx.composing) }
    latches := ch.latches ||| BitVec.twoPow 4 1 } := by
  simp only [Channel.refuseWrite, hmode]
  rfl

/-- On a stream channel a refused write spoils nothing (07 R119). -/
theorem Channel.refuseWrite_stream (hmode : ch.config.mode = .stream) :
    ch.refuseWrite = { ch with latches := ch.latches ||| BitVec.twoPow 4 1 } := by
  have hspoils : (ch.tx.spoiled || (ch.config.mode == .credit && decide (0 < ch.tx.composing))) = ch.tx.spoiled := by
    simp [hmode]
  simp only [Channel.refuseWrite, hspoils]
  rfl

end

/-! ### Writes and reads (07 R111, R119, 08 R139) -/

section
variable {s : State} (hlive : s.resetPin = false)
include hlive

/-- A taken word is stored at the store position and joins the message or the FIFO. -/
theorem exec_cdataWrite_taken (w : Word) (htaken : (s.chan s.host.selected).writeTaken = true)
    (hinside : (s.chan s.host.selected).txStoreAddr < 4096) {ch : Channel}
    (happend : (s.chan s.host.selected).appendWord = ch) : exec (.cdataWrite w) s =
      finish (({ s with memory := Memory.write s.memory (s.chan s.host.selected).txStoreAddr w } : State).setChan
        s.host.selected ch) := by
  subst happend
  exact (whenLive_live _ hlive).trans ((if_pos htaken).trans (if_pos hinside))

theorem exec_cdataWrite_refused (w : Word) (hrefused : ¬ (s.chan s.host.selected).writeTaken = true) {ch : Channel}
    (hrefuse : (s.chan s.host.selected).refuseWrite = ch) :
    exec (.cdataWrite w) s = finish (s.setChan s.host.selected ch) := by
  subst hrefuse
  exact (whenLive_live _ hlive).trans (if_neg hrefused)

/-- A read of an unread word returns it and advances the head's read position. -/
theorem exec_cdataRead_unread {r : RxRecord} {rest : List RxRecord}
    (hrecords : (s.chan s.host.selected).rx.records = r :: rest) (hunread : r.readPos < r.length)
    (hinside : (s.chan s.host.selected).rxRegion.wordAt (s.chan s.host.selected).rx.free r.readPos < 4096) :
    exec .cdataRead s = finish ((s.returns (Memory.read s.memory
      ((s.chan s.host.selected).rxRegion.wordAt (s.chan s.host.selected).rx.free r.readPos))).modChan s.host.selected
        (fun ch => ch.advanceRead r rest)) := by
  refine (whenLive_live _ hlive).trans ?_
  dsimp only
  rw [hrecords]
  exact (if_pos hunread).trans (if_pos hinside)

theorem exec_cdataRead_nothing (h : (s.chan s.host.selected).rx.records = [] ∨
    ∃ r rest, (s.chan s.host.selected).rx.records = r :: rest ∧ r.length ≤ r.readPos) :
    exec .cdataRead s = finish (s.readNothing s.host.selected) := by
  refine (whenLive_live _ hlive).trans ?_
  dsimp only
  rcases h with hempty | ⟨r, rest, hrecords, hread⟩
  · rw [hempty]
  · rw [hrecords]
    exact if_neg (Nat.not_lt_of_le hread)

end

/-- Settles O42: a write by mode, taken or refused, and a read by what the head has unread. -/
theorem cdataStoresAndReads : Obligations.CdataStoresAndReads := by
  unfold Obligations.CdataStoresAndReads
  refine ⟨?_, ?_⟩
  · rintro s ch w hlive rfl
    refine ⟨fun hmode hst hspoiled hshort hroom hinside => ?_, fun hmode hst hroom hinside => ?_,
      fun hmode hrefused => ?_, fun hmode hrefused => ?_⟩
    · exact exec_cdataWrite_taken hlive w ((Channel.writeTaken_credit_iff hmode).mpr ⟨hst, hspoiled, hshort, hroom⟩)
        hinside (Channel.appendWord_credit hmode)
    · exact exec_cdataWrite_taken hlive w ((Channel.writeTaken_stream_iff hmode).mpr ⟨hst, hroom⟩) hinside
        (Channel.appendWord_stream hmode)
    · refine exec_cdataWrite_refused hlive w (fun htaken => ?_) (Channel.refuseWrite_credit hmode)
      obtain ⟨hst, hspoiled, hshort, hroom⟩ := (Channel.writeTaken_credit_iff hmode).mp htaken
      rcases hrefused with ⟨hlisten, hopening, hopened⟩ | hspoilt | hlong | hfull
      · exact hst.elim hlisten fun hst => hst.elim hopening hopened
      · rw [hspoilt] at hspoiled
        cases hspoiled
      · exact Nat.not_lt_of_le hlong hshort
      · exact Nat.not_lt_of_le hfull hroom
    · refine exec_cdataWrite_refused hlive w (fun htaken => ?_) (Channel.refuseWrite_stream hmode)
      obtain ⟨hst, hroom⟩ := (Channel.writeTaken_stream_iff hmode).mp htaken
      exact hrefused.elim (fun hne => hne hst) fun hfull => Nat.not_lt_of_le hfull hroom
  · rintro s ch hlive rfl
    exact ⟨fun r rest hrecords hunread hinside => exec_cdataRead_unread hlive hrecords hunread hinside,
      exec_cdataRead_nothing hlive⟩

end Sys2Proof.Machine
end

section
/-! SUPPORT. The sending side of a channel stays sound in every step: what each step does to the messages listed and
composed (05 R71, R73, 07 R110 to R118). -/

namespace Sys2Proof.Machine

-- One theorem after another, as in the tests: many at once ask for more threads than there are.
set_option Elab.async false

/-! ### What the rule speaks of -/

/-- The messages listed, the words composed, and the Spoiled mark (07 R110). -/
def TxSide.listing (t : TxSide) : List TxMessage × Nat × Bool := (t.messages, t.composing, t.spoiled)

/-- No message is listed or composed in CLOSED and FAULT (05 R73), and never in stream mode (03 R37). -/
def Channel.ListsNothing (ch : Channel) : Prop :=
  ch.link.state = .closed ∨ ch.link.state = .fault ∨ ch.config.mode = .stream

/-- The sending side of one channel is sound. -/
structure Channel.SendsSoundly (ch : Channel) : Prop where
  few : ch.tx.messages.length ≤ 8
  unsent : ∀ m ∈ ch.tx.messages, m.sent < m.length
  empty : ch.ListsNothing → ch.tx.messages = [] ∧ ch.tx.composing = 0
  unspoiled : ch.tx.composing = 0 → ch.tx.spoiled = false

theorem sendingSidesSound_iff (s : State) : SendingSidesSound s ↔ ∀ c : Chan, (s.chan c).SendsSoundly :=
  forall_congr' fun _ => ⟨fun ⟨hfew, hunsent, hempty, hunspoiled⟩ => ⟨hfew, hunsent, hempty, hunspoiled⟩,
    fun ⟨hfew, hunsent, hempty, hunspoiled⟩ => ⟨hfew, hunsent, hempty, hunspoiled⟩⟩

/-! ### Operations that leave the messages alone -/

@[simp] theorem TxSide.endOpenMessage_listing (t : TxSide) : t.endOpenMessage.listing = t.listing := by
  unfold TxSide.endOpenMessage
  split_ifs <;> rfl

@[simp] theorem TxSide.abandonOpenMessage_listing (t : TxSide) : t.abandonOpenMessage.listing = t.listing := by
  unfold TxSide.abandonOpenMessage
  split_ifs <;> rfl

section
variable {a b : Channel}

/-- The link record and the mode say whether messages may be listed. -/
theorem Channel.listsNothing_of_timed (h : b.timed = a.timed) : b.ListsNothing ↔ a.ListsNothing := by
  simp only [Channel.timed, Prod.mk.injEq] at h
  rw [Channel.ListsNothing, h.1, h.2.1]
  exact Iff.rfl

/-- A credit channel composes and posts in states in which messages may be listed (07 R111, R112). -/
theorem Channel.not_listsNothing (hmode : a.config.mode = .credit)
    (hst : a.link.state = .listen ∨ a.link.state = .opening ∨ a.link.state = .opened) : ¬ a.ListsNothing := by
  rcases hst with hst | hst | hst <;> simp [Channel.ListsNothing, hst, hmode]

/-- What leaves the sending side leaves its messages. -/
theorem Channel.listing_of_sender (h : b.sender = a.sender) : b.tx.listing = a.tx.listing :=
  congrArg (fun view => view.1.listing) h

theorem Channel.moveTo_listing (a : Channel) (st : LinkState) : (a.moveTo st).tx.listing = a.tx.listing :=
  Channel.listing_of_sender (a.moveTo_sender st)

/-- An entry into OPEN sends nothing and discards nothing (05 R74). -/
theorem Channel.afterEntry_listing (a : Channel) : a.afterEntry.tx.listing = a.tx.listing := by
  unfold Channel.afterEntry
  split
  · exact (Channel.listing_of_sender (Channel.grant_sender _)).trans (Channel.moveTo_listing a.stopAnswer .opened)
  · exact Channel.moveTo_listing a.stopAnswer .opened

/-- The oldest unsent word of a FIFO is no word of a message listed. -/
theorem Channel.offerFifoWord_listing (a : Channel) (c : Chan) (mark : Bool) :
    (a.offerFifoWord c mark).after.tx.listing = a.tx.listing := by
  unfold Channel.offerFifoWord
  dsimp only
  split
  · rfl
  · dsimp only
    split <;> rfl

/-- An offer puts a word on the line; its message advances at the report (07 R114, R115). -/
theorem Channel.offer_listing {c : Chan} {answer : Answer} (h : a.offer c = some answer) :
    answer.after.tx.listing = a.tx.listing := by
  unfold Channel.offer at h
  split at h
  · unfold Channel.offerCredit at h
    split_ifs at h
    split at h
    · cases h
    · split_ifs at h
      cases h
      rfl
  · unfold Channel.offerStream at h
    split at h
    · split at h
      · cases h
        rfl
      · split at h
        · cases h
          exact a.offerFifoWord_listing c _
        · split_ifs at h
          cases h
          rfl
    · cases h

end

namespace Channel.SendsSoundly

section
variable {a b : Channel}

/-! ### What gives it -/

/-- What leaves the messages, and lists nothing only where that held before. -/
theorem of_listing (ha : a.SendsSoundly) (listing : b.tx.listing = a.tx.listing)
    (still : b.ListsNothing → a.ListsNothing) : b.SendsSoundly := by
  simp only [TxSide.listing, Prod.mk.injEq] at listing
  obtain ⟨hmessages, hcomposing, hspoiled⟩ := listing
  constructor
  · rw [hmessages]
    exact ha.few
  · rw [hmessages]
    exact ha.unsent
  · rw [hmessages, hcomposing]
    exact fun hb => ha.empty (still hb)
  · rw [hcomposing, hspoiled]
    exact ha.unspoiled

/-- What leaves the messages, the link record and the mode. -/
theorem of_same (ha : a.SendsSoundly) (listing : b.tx.listing = a.tx.listing := by rfl)
    (timed : b.timed = a.timed := by rfl) : b.SendsSoundly :=
  ha.of_listing listing (Channel.listsNothing_of_timed timed).mp

/-- A move to a state in which messages may be listed. -/
theorem moveTo (ha : a.SendsSoundly) {st : LinkState} (hclosed : st ≠ .closed) (hfault : st ≠ .fault) :
    (a.moveTo st).SendsSoundly := by
  refine ha.of_listing (a.moveTo_listing st) fun hb => .inr (.inr ?_)
  have hconfig : (a.moveTo st).config = a.config := congrArg (fun view => view.2.2) (a.moveTo_linkView st)
  rw [Channel.ListsNothing, Channel.moveTo_state, hconfig] at hb
  exact (hb.resolve_left hclosed).resolve_left hfault

/-- Nothing listed and nothing composed. -/
theorem of_nothing (listing : b.tx.listing = ([], 0, false) := by rfl) : b.SendsSoundly := by
  simp only [TxSide.listing, Prod.mk.injEq] at listing
  obtain ⟨hmessages, hcomposing, hspoiled⟩ := listing
  constructor
  · rw [hmessages]
    exact Nat.zero_le _
  · rw [hmessages]
    exact fun m hm => absurd hm List.not_mem_nil
  · exact fun _ => ⟨hmessages, hcomposing⟩
  · exact fun _ => hspoiled

end

section
variable {a : Channel} (ha : a.SendsSoundly)
include ha

/-! ### Flushes (05 R71, R73, R79, R82) -/

theorem listing_of_listsNothing (h : a.ListsNothing) : a.tx.listing = ([], 0, false) := by
  obtain ⟨hmessages, hcomposing⟩ := ha.empty h
  rw [TxSide.listing, hmessages, hcomposing, ha.unspoiled hcomposing]

/-- A TX flush empties a credit channel's list; a stream channel has none (05 R71). -/
theorem emptyTx_listing : a.emptyTx.tx.listing = ([], 0, false) := by
  cases hmode : a.config.mode with
  | credit => rw [a.emptyTx_tx_credit hmode]; rfl
  | stream =>
    rw [a.emptyTx_tx_stream hmode]
    exact ha.listing_of_listsNothing (.inr (.inr hmode))

theorem afterClearDown (cause : Cause) : (a.afterClearDown cause).SendsSoundly := by
  have hmoved := Channel.listing_of_sender (Channel.moveToWith_sender a.emptyTx.clearDown .closed cause)
  refine .of_nothing (hmoved.trans ?_)
  rw [Channel.clearDown_tx]
  exact ha.emptyTx_listing

theorem afterGivingUp (st : LinkState) (cause : Cause) : (a.afterGivingUp st cause).SendsSoundly :=
  .of_nothing ((Channel.listing_of_sender (Channel.moveToWith_sender a.emptyTx.stopTimers st cause)).trans
    ha.emptyTx_listing)

theorem afterRestart : a.afterRestart.SendsSoundly := by
  have hgrant := Channel.listing_of_sender (Channel.grant_sender a.emptyTx.rxAbort.zeroCredits.clearMarks)
  have habort := congrArg TxSide.listing (Channel.Receives.rxAbort a.emptyTx).only.tx
  exact .of_nothing (hgrant.trans (habort.trans ha.emptyTx_listing))

theorem flush (hst : a.link.state = .closed ∨ a.link.state = .fault) : a.flush.SendsSoundly := by
  obtain ⟨hmessages, -⟩ := ha.empty (hst.imp_right .inl)
  rw [a.flush_eq hst]
  exact .of_nothing (congrArg (fun ms => (ms, 0, false)) hmessages)

/-- An entry into OPEN leads to a state in which messages may be listed (05 R74). -/
theorem afterEntry : a.afterEntry.SendsSoundly := by
  refine ha.of_listing a.afterEntry_listing fun hb => .inr (.inr ?_)
  have htimed := a.afterEntry_timed
  simp only [Channel.timed, Prod.mk.injEq] at htimed
  obtain ⟨hlink, hmode, -⟩ := htimed
  simpa [Channel.ListsNothing, hlink, hmode] using hb

/-! ### Composing and posting (07 R111 to R113) -/

/-- A taken word is composed on a credit channel in a state that lists messages; a stream channel's joins its FIFO. -/
theorem appendWord (htaken : a.writeTaken = true) : a.appendWord.SendsSoundly := by
  cases hmode : a.config.mode with
  | credit =>
    obtain ⟨hst, -⟩ := (Channel.writeTaken_credit_iff hmode).mp htaken
    rw [Channel.appendWord_credit hmode]
    exact ⟨ha.few, ha.unsent, fun hb => absurd hb (Channel.not_listsNothing hmode hst),
      fun h => absurd h (Nat.succ_ne_zero _)⟩
  | stream =>
    rw [Channel.appendWord_stream hmode]
    exact ha.of_same

/-- A refused write spoils a composing message that exists alone. -/
theorem refuseWrite : a.refuseWrite.SendsSoundly := by
  refine ⟨ha.few, ha.unsent, ha.empty, fun hnone => ?_⟩
  have hcomposing : a.tx.composing = 0 := hnone
  simp [Channel.refuseWrite, Channel.raise, hcomposing, ha.unspoiled hcomposing]

theorem dropComposing : a.dropComposing.SendsSoundly :=
  ⟨ha.few, ha.unsent, fun hb => ⟨(ha.empty hb).1, rfl⟩, fun _ => rfl⟩

/-- A posted message has all its words to send, and joins a list with room. -/
theorem postComposing (hlists : ¬ a.ListsNothing) (hcomposing : a.tx.composing ≠ 0) (hspoiled : a.tx.spoiled = false)
    (hroom : a.tx.messages.length < 8) : Channel.SendsSoundly { a with tx := a.tx.postComposing } := by
  refine ⟨?_, fun m hm => ?_, fun hb => absurd hb hlists, fun _ => hspoiled⟩
  · simpa [TxSide.postComposing] using hroom
  · rcases List.mem_append.mp hm with hold | hnew
    · exact ha.unsent m hold
    · rw [List.mem_singleton.mp hnew]
      exact Nat.pos_of_ne_zero hcomposing

/-! ### Words sent and cut (07 R115 to R117) -/

/-- A list that was not empty takes no more messages, each with a word still to send. -/
theorem of_listed {b : Channel} {m : TxMessage} {rest ms : List TxMessage} (hlisted : a.tx.messages = m :: rest)
    (messages : b.tx.messages = ms) (few : ms.length ≤ (m :: rest).length)
    (unsent : (∀ x ∈ m :: rest, x.sent < x.length) → ∀ x ∈ ms, x.sent < x.length)
    (others : b.tx.composing = a.tx.composing ∧ b.tx.spoiled = a.tx.spoiled := by exact ⟨rfl, rfl⟩)
    (still : b.ListsNothing → a.ListsNothing := by exact id) : b.SendsSoundly := by
  obtain ⟨hcomposing, hspoiled⟩ := others
  constructor
  · rw [messages]
    exact few.trans (hlisted ▸ ha.few)
  · rw [messages]
    exact unsent (hlisted ▸ ha.unsent)
  · intro hb
    have hempty := (ha.empty (still hb)).1
    rw [hlisted] at hempty
    cases hempty
  · rw [hcomposing, hspoiled]
    exact ha.unspoiled

/-- Another head with a word still to send, and the list keeps its tail. -/
theorem of_head {b : Channel} {m m' : TxMessage} {rest : List TxMessage} (hlisted : a.tx.messages = m :: rest)
    (messages : b.tx.messages = m' :: rest) (unsent : m.sent < m.length → m'.sent < m'.length)
    (others : b.tx.composing = a.tx.composing ∧ b.tx.spoiled = a.tx.spoiled := by exact ⟨rfl, rfl⟩)
    (still : b.ListsNothing → a.ListsNothing := by exact id) : b.SendsSoundly := by
  refine ha.of_listed hlisted messages (Nat.le_refl _) (fun hall => ?_) others still
  obtain ⟨hhead, hrest⟩ := List.forall_mem_cons.mp hall
  exact List.forall_mem_cons.mpr ⟨unsent hhead, hrest⟩

/-- A highway loss sends a started head from its First word again (07 R117). -/
theorem loseHighway : a.loseHighway.SendsSoundly := by
  have htimed := a.loseHighway_timed
  have hsame (hlisting : a.loseHighway.tx.listing = a.tx.listing) := ha.of_same hlisting htimed
  obtain ⟨-, -, -, -, -, -, -, -, -, -, hcredit, hstream, hidle⟩ := a.loseHighway_lossOn
  cases hmode : a.config.mode with
  | credit =>
    obtain ⟨ms, htx, hnone, hhead⟩ := hcredit hmode
    cases hlisted : a.tx.messages with
    | nil => exact hsame (by rw [htx, hnone hlisted, ← hlisted]; rfl)
    | cons m rest =>
      refine ha.of_head hlisted (by rw [htx]; exact hhead m rest hlisted) (fun hunsent => ?_)
        (by rw [htx]; exact ⟨rfl, rfl⟩) (Channel.listsNothing_of_timed htimed).mp
      split
      · exact Nat.zero_lt_of_lt hunsent
      · exact hunsent
  | stream =>
    cases hsending : a.streamSending with
    | true => exact hsame (by rw [hstream hmode hsending]; rfl)
    | false => exact hsame (congrArg TxSide.listing (hidle hmode hsending))

end

/-! ### Every step -/

/-- Every step keeps the sending side sound: flushes empty it where a channel leaves the states that list messages,
and a message is posted, advanced and cut with a word still to send. -/
theorem step {a b : Channel} (h : Channel.Step a b) (ha : a.SendsSoundly) : b.SendsSoundly := by
  cases h
  case listen => exact ha.moveTo (by decide) (by decide)
  case startOpening l _ => exact (ha.of_listing (b := a.loadAnswer l) rfl id).moveTo (by decide) (by decide)
  case closeWait l _ _ => exact (ha.of_listing (b := a.loadAnswer l) rfl id).moveTo (by decide) (by decide)
  case enterOpen => exact ha.afterEntry
  case drainCredit | yieldOpened => exact ha.dropComposing.moveTo (by decide) (by decide)
  case drainStream =>
    refine moveTo ?_ (by decide) (by decide)
    split
    · exact ha.of_same (TxSide.endOpenMessage_listing _)
    · exact ha
  case yieldDrain => exact ha.moveTo (by decide) (by decide)
  case clearDown cause _ => exact ha.afterClearDown cause
  case giveUp cause _ | fail cause _ => exact ha.afterGivingUp _ cause
  case restart => exact ha.afterRestart
  case flush hst => exact ha.flush hst
  case retryAnswer | stopAnswer | restartProbe | resetProbe | countFrame => exact ha.of_listing rfl id
  case marks | latches | counters | tag | advanceRead | giveTxRegion | giveRxRegion | reportGone => exact ha.of_same
  case hearWordLevel v _ _ => exact ha.of_same (congrArg _ (a.hearWordLevel_tx v)) (Channel.endStarvation_timed _ _)
  case hearMsgLevel v _ _ => exact ha.of_same (congrArg _ (a.hearMsgLevel_tx v)) (Channel.endStarvation_timed _ _)
  case appendWord htaken => exact ha.appendWord htaken
  case refuseWrite => exact ha.refuseWrite
  case post hmode hst hcomposing hspoiled hroom =>
    exact ha.postComposing (Channel.not_listsNothing hmode hst) hcomposing hspoiled hroom
  case endOpenMessage => exact ha.of_same (TxSide.endOpenMessage_listing _)
  case abandonOpenMessage => exact ha.of_same (TxSide.abandonOpenMessage_listing _)
  case dropComposing => exact ha.dropComposing
  case offer hanswers => exact ha.of_same (Channel.offer_listing hanswers) (Channel.offer_timed _ hanswers)
  case reportMore hlisted hmore => exact ha.of_head hlisted rfl fun hunsent => Nat.lt_of_le_of_ne hunsent hmore
  case reportLast m rest _ hlisted _ =>
    exact ha.of_listed hlisted rfl (Nat.le_succ _) fun hall => (List.forall_mem_cons.mp hall).2
  case reportStreamWord =>
    refine ha.of_same ?_ (by simp)
    unfold Channel.reportStreamWord
    split <;> rfl
  case dataWord => exact ha.of_same (Channel.listing_of_sender (by simp)) (by simp)
  case checkError => exact ha.of_same (Channel.listing_of_sender (by simp)) (by simp)
  case release => exact ha.of_same (Channel.listing_of_sender (Channel.grant_sender _)) (by simp)
  case loseHighway => exact ha.loseHighway
  case configure hwritten hfree =>
    refine ha.of_listing rfl fun hb => ?_
    rcases hfree with hk | hclosed
    · simpa only [Channel.ListsNothing, ChanConfig.write_mode hwritten hk] using hb
    · exact .inl (a.reconfigurable_iff.mp hclosed).1

end Channel.SendsSoundly

/-- Settles O14: each step on a channel keeps its sending side sound, and both resets empty it. -/
theorem sendingSidesStaySound : Obligations.SendingSidesStaySound := by
  unfold Obligations.SendingSidesStaySound
  intro s t hs hstep
  rw [sendingSidesSound_iff] at hs ⊢
  exact step_keeps_channels (fun _ _ => Channel.SendsSoundly.step) (fun _ => .of_nothing) .of_nothing hs hstep

end Sys2Proof.Machine
end

section
/-! SUPPORT. POST and ABANDON by mode and link state (07 R112, R113, R120, R121). -/

namespace Sys2Proof.Machine

-- One theorem after another, as in the tests: many at once ask for more threads than there are.
set_option Elab.async false

/-! ### The commands by mode -/

section
variable {s : State} (hlive : s.resetPin = false)
include hlive

theorem exec_chanPost_credit (hmode : (s.chan s.host.selected).config.mode = .credit) :
    exec .chanPost s = s.postCredit s.host.selected := by
  refine (whenLive_live _ hlive).trans ?_
  simp only [State.selectedChan, hmode]

theorem exec_chanPost_stream (hmode : (s.chan s.host.selected).config.mode = .stream) :
    exec .chanPost s = s.postStream s.host.selected := by
  refine (whenLive_live _ hlive).trans ?_
  simp only [State.selectedChan, hmode]

theorem exec_chanAbandon_credit (hmode : (s.chan s.host.selected).config.mode = .credit) :
    exec .chanAbandon s = s.abandonCredit s.host.selected := by
  refine (whenLive_live _ hlive).trans ?_
  simp only [State.selectedChan, hmode]

theorem exec_chanAbandon_stream (hmode : (s.chan s.host.selected).config.mode = .stream) :
    exec .chanAbandon s = s.abandonStream s.host.selected := by
  refine (whenLive_live _ hlive).trans ?_
  simp only [State.selectedChan, hmode]

end

/-! ### Credit channels (07 R112, R113) -/

/-- Settles O39: POST by its tests in their order, and ABANDON by what is composed. -/
theorem creditPostAndAbandon : Obligations.CreditPostAndAbandon := by
  unfold Obligations.CreditPostAndAbandon
  rintro s ch hlive rfl hmode
  rw [exec_chanPost_credit hlive hmode, exec_chanAbandon_credit hlive hmode]
  have hsome {n : Nat} (h : 0 < n) : ¬ n = 0 := Nat.ne_of_gt h
  have hclean {b : Bool} (h : b = false) : ¬ b = true := Bool.not_eq_true b ▸ h
  refine ⟨fun hst => ⟨fun hnone => ?_, fun hcomposed hspoiled => ?_, fun hcomposed hspoiled hfull => ?_,
    fun hcomposed hspoiled hlist hreserve => ?_⟩, fun ⟨hlisten, hopening, hopened⟩ => ?_,
    fun hcomposed => if_pos hcomposed, fun hnone => ?_⟩
  · exact (if_pos hst).trans (if_pos hnone)
  · exact (if_pos hst).trans ((if_neg (hsome hcomposed)).trans (if_pos hspoiled))
  · refine (if_pos hst).trans ((if_neg (hsome hcomposed)).trans ((if_neg (hclean hspoiled)).trans ?_))
    by_cases hlist : 8 ≤ (s.chan s.host.selected).tx.messages.length
    · exact if_pos hlist
    · exact (if_neg hlist).trans (if_pos (hfull.resolve_left hlist))
  · exact (if_pos hst).trans ((if_neg (hsome hcomposed)).trans ((if_neg (hclean hspoiled)).trans
      ((if_neg (Nat.not_le_of_lt hlist)).trans (if_neg (Nat.not_le_of_lt hreserve)))))
  · exact if_neg fun hst => hst.elim hlisten fun hst => hst.elim hopening hopened
  · exact if_neg (Nat.not_lt_of_le (Nat.le_of_eq hnone))

/-! ### The FIFO of a stream channel (07 R118) -/

/-- The words of messages already ended are none, or the newest of them carries an end mark. -/
theorem eq_nil_or_marked_of_ended {ended : List Bool} (h : ended.getLast? ≠ some false) :
    ended = [] ∨ ∃ earlier, ended = earlier ++ [true] := by
  rcases List.eq_nil_or_concat ended with hnil | ⟨earlier, mark, hconcat⟩
  · exact .inl hnil
  · rw [List.concat_eq_append] at hconcat
    rw [hconcat, List.getLast?_concat, ne_eq, Option.some.injEq, Bool.not_eq_false] at h
    exact .inr ⟨earlier, h ▸ hconcat⟩

theorem any_mark_of_ended {ended : List Bool} (h : ended.getLast? ≠ some false) :
    (ended.any fun mark => mark) = !ended.isEmpty := by
  rcases eq_nil_or_marked_of_ended h with rfl | ⟨earlier, rfl⟩
  · rfl
  · simp

/-- Behind the words of messages already ended stand the unsent words of the open message, and no others. -/
theorem takeWhile_unmarked_of_ended {ended : List Bool} (h : ended.getLast? ≠ some false) (k : Nat) :
    ((ended ++ List.replicate k false).reverse.takeWhile fun mark => !mark) = List.replicate k false := by
  have hended : (ended.reverse.takeWhile fun mark => !mark) = [] := by
    rcases eq_nil_or_marked_of_ended h with rfl | ⟨earlier, rfl⟩
    · rfl
    · simp
  rw [List.reverse_append, List.reverse_replicate, List.takeWhile_append_of_pos (by simp), hended, List.append_nil]

/-- The FIFO of a stream channel with an open message: the word on the line, if any, the words of messages already
ended, and `k` unsent words of the open message. -/
structure TxSide.Splits (t : TxSide) (onWire ended : List Bool) (k : Nat) : Prop where
  fifo : t.fifo = onWire ++ ended ++ List.replicate k false
  onWire : onWire.length = if t.onLine then 1 else 0
  ended : ended.getLast? ≠ some false

namespace TxSide.Splits

variable {t : TxSide} {onWire ended : List Bool} {k : Nat} (h : t.Splits onWire ended k)
include h

theorem unsent : t.unsent = ended ++ List.replicate k false := by
  have hwire := h.onWire
  unfold TxSide.unsent
  cases hon : t.onLine
  · rw [hon] at hwire
    rw [if_neg Bool.false_ne_true, h.fifo, List.eq_nil_of_length_eq_zero hwire]
    rfl
  · rw [hon] at hwire
    obtain ⟨word, rfl⟩ := List.length_eq_one_iff.mp hwire
    rw [if_pos rfl, h.fifo]
    rfl

theorem openUnsent : t.openUnsent = k := by
  rw [TxSide.openUnsent, h.unsent, takeWhile_unmarked_of_ended h.ended, List.length_replicate]

/-- An unsent word carries an end mark where a message already ended has unsent words. -/
theorem any_unsent : (t.unsent.any fun mark => mark) = !ended.isEmpty := by
  simp [h.unsent, List.any_append, any_mark_of_ended h.ended]

theorem startedOnWire : t.startedOnWire = (t.inProgress && !t.pendingEnd && ended.isEmpty) := by
  rw [TxSide.startedOnWire, h.any_unsent, Bool.not_not]

/-! ### Ending and abandoning the open message (07 R120, R121) -/

/-- With unsent words the newest of them gets the end mark. -/
theorem endOpenMessage_unsent (hk : 1 ≤ k) : t.endOpenMessage = { t with
    fifo := onWire ++ ended ++ List.replicate (k - 1) false ++ [true]
    openMessage := false
    restartMark := t.restartMark && !ended.isEmpty } := by
  have hlast : t.fifo.dropLast = onWire ++ ended ++ List.replicate (k - 1) false := by
    obtain ⟨n, rfl⟩ := Nat.exists_eq_add_of_le' hk
    rw [h.fifo, List.replicate_succ', ← List.append_assoc, List.dropLast_concat]
    rfl
  rw [TxSide.endOpenMessage, if_pos (by rw [h.openUnsent]; exact hk), hlast, h.any_unsent]

/-- With unsent words these are freed, and a message that has started ends with a pending end. -/
theorem abandonOpenMessage_unsent (hk : 1 ≤ k) : t.abandonOpenMessage = { t with
    fifo := onWire ++ ended
    openMessage := false
    restartMark := false
    pendingEnd := t.pendingEnd || (t.inProgress && ended.isEmpty) } := by
  have hrest : t.fifo.take (t.fifo.length - k) = onWire ++ ended := by
    rw [h.fifo]
    refine List.take_left' ?_
    simp only [List.length_append, List.length_replicate]
    exact (Nat.add_sub_cancel _ k).symm
  have hend : (t.pendingEnd || t.startedOnWire) = (t.pendingEnd || (t.inProgress && ended.isEmpty)) := by
    rw [h.startedOnWire]
    cases t.pendingEnd <;> simp
  rw [TxSide.abandonOpenMessage, h.openUnsent, if_pos (show 0 < k from hk), hrest, hend]

section
variable (hk : k = 0)
include hk

theorem none_unsent : ¬ 0 < t.openUnsent := by
  rw [h.openUnsent, hk]
  exact Nat.lt_irrefl 0

/-- A message that has started and has no unsent word ends with a pending end, by either command. -/
theorem ends_started (hstarted : t.startedOnWire = true) :
    t.endOpenMessage = { t with pendingEnd := true, openMessage := false } ∧
      t.abandonOpenMessage = { t with pendingEnd := true, openMessage := false } :=
  have hnone := h.none_unsent hk
  ⟨(if_neg hnone).trans (if_pos hstarted), (if_neg hnone).trans (if_pos hstarted)⟩

/-- One that has not started is forgotten, by either command. -/
theorem ends_unstarted (hwaiting : t.startedOnWire = false) :
    t.endOpenMessage = { t with openMessage := false, restartMark := false } ∧
      t.abandonOpenMessage = { t with openMessage := false, restartMark := false } := by
  have hnone := h.none_unsent hk
  have hunstarted : ¬ t.startedOnWire = true := by rw [hwaiting]; exact Bool.false_ne_true
  exact ⟨(if_neg hnone).trans (if_neg hunstarted), (if_neg hnone).trans (if_neg hunstarted)⟩

end

end TxSide.Splits

/-! ### Stream channels (07 R120, R121) -/

section
variable {s : State} {c : Chan}

theorem State.postStream_open (hsending : (s.chan c).streamSending = true) (hopen : (s.chan c).tx.openMessage = true)
    {tx : TxSide} (htx : (s.chan c).tx.endOpenMessage = tx) :
    s.postStream c = finishChannel (s.setChan c { s.chan c with tx := tx }) .done := by
  subst htx
  exact (if_pos hsending).trans (if_pos hopen)

theorem State.abandonStream_open (hsending : (s.chan c).streamSending = true)
    (hopen : (s.chan c).tx.openMessage = true) {tx : TxSide} (htx : (s.chan c).tx.abandonOpenMessage = tx) :
    s.abandonStream c = finishChannel (s.setChan c { s.chan c with tx := tx }) .done := by
  subst htx
  exact (if_pos hsending).trans (if_pos hopen)

end

/-- Settles O40: by link state, by whether a message is open, and by what of it is unsent. -/
theorem streamPostAndAbandon : Obligations.StreamPostAndAbandon := by
  unfold Obligations.StreamPostAndAbandon
  rintro s ch hlive rfl hmode
  rw [exec_chanPost_stream hlive hmode, exec_chanAbandon_stream hlive hmode]
  refine ⟨fun hst hnone => ?_, fun hst hopen onWire ended k hfifo hwire hended => ?_, fun hopened hdrain => ?_⟩
  · have hsending := (Channel.streamSending_iff _).mpr hst
    have hclosed : ¬ (s.chan s.host.selected).tx.openMessage = true := by rw [hnone]; exact Bool.false_ne_true
    exact ⟨(if_pos hsending).trans (if_neg hclosed), (if_pos hsending).trans (if_neg hclosed)⟩
  · have hsending := (Channel.streamSending_iff _).mpr hst
    have hsplits : (s.chan s.host.selected).tx.Splits onWire ended k := ⟨hfifo, hwire, hended⟩
    refine ⟨fun hk => ?_, fun hk hprogress hpending hnone => ?_, fun hk hwaiting => ?_⟩
    · exact ⟨State.postStream_open hsending hopen (hsplits.endOpenMessage_unsent hk),
        State.abandonStream_open hsending hopen (hsplits.abandonOpenMessage_unsent hk)⟩
    · have hstarted : (s.chan s.host.selected).tx.startedOnWire = true := by
        rw [hsplits.startedOnWire, hprogress, hpending, hnone]
        rfl
      obtain ⟨hpost, habandon⟩ := hsplits.ends_started hk hstarted
      exact ⟨State.postStream_open hsending hopen hpost, State.abandonStream_open hsending hopen habandon⟩
    · have hunstarted : (s.chan s.host.selected).tx.startedOnWire = false := by
        rw [hsplits.startedOnWire]
        rcases hwaiting with hidle | hpending | hsome
        · simp [hidle]
        · simp [hpending]
        · simp [hsome]
      obtain ⟨hpost, habandon⟩ := hsplits.ends_unstarted hk hunstarted
      exact ⟨State.postStream_open hsending hopen hpost, State.abandonStream_open hsending hopen habandon⟩
  · have hidle : ¬ (s.chan s.host.selected).streamSending = true := fun hsending =>
      ((Channel.streamSending_iff _).mp hsending).elim hopened hdrain
    exact ⟨if_neg hidle, if_neg hidle⟩

end Sys2Proof.Machine
end

section
/-! SUPPORT. The data slots of a stream channel: the offer by Table 28 and the report (07 R122, R123). -/

namespace Sys2Proof.Machine

-- One theorem after another, as in the tests: many at once ask for more threads than there are.
set_option Elab.async false

/-! ### The offer by Table 28 (07 R122) -/

section
variable {ch : Channel} (c : Chan)

/-- Outside OPEN and DRAIN there is no answer. -/
theorem Channel.offerStream_idle (h : ¬ ch.streamSending = true) : ch.offerStream c = none := if_neg h

section
variable (hsending : ch.streamSending = true)
include hsending

/-- A pending end goes out before any word of the FIFO. -/
theorem Channel.offerStream_pendingEnd (hpending : ch.tx.pendingEnd = true) : ch.offerStream c = some {
    kind := .last, source := none, owner := .streamEnd c,
    after := { ch with tx := { ch.tx with pendingEnd := false, inProgress := false } } } :=
  (if_pos hsending).trans (if_pos hpending)

section
variable (hpending : ch.tx.pendingEnd = false) (hoff : ch.tx.onLine = false)
include hpending hoff

/-- With no word on the line every word of the FIFO is unsent, and the oldest goes out. -/
theorem Channel.offerStream_word {mark : Bool} {rest : List Bool} (hfifo : ch.tx.fifo = mark :: rest) :
    ch.offerStream c = some (ch.offerFifoWord c mark) := by
  simp [Channel.offerStream, TxSide.unsent, hsending, hpending, hoff, hfifo]

/-- With an empty FIFO a message in progress is filled. -/
theorem Channel.offerStream_empty (hfifo : ch.tx.fifo = []) : ch.offerStream c =
    if ch.tx.inProgress then some { kind := .fill, source := none, owner := .streamFill c, after := ch } else none := by
  simp [Channel.offerStream, TxSide.unsent, hsending, hpending, hoff, hfifo]

end

end

section
variable (mark : Bool) (hoff : ch.tx.onLine = false)
include hoff

/-- A word of a message in progress. -/
theorem Channel.offerFifoWord_continues (hprogress : ch.tx.inProgress = true) : ch.offerFifoWord c mark = {
    kind := if mark then .last else .middle, source := some (ch.txRegion.wordAt ch.tx.free 0), owner := .streamWord c,
    after := { ch with tx := { ch.tx with onLine := true, inProgress := !mark } } } := by
  simp [Channel.offerFifoWord, hoff, hprogress]

/-- A word that begins a message; with the restart mark it counts a restart (07 R124). -/
theorem Channel.offerFifoWord_begins (hidle : ch.tx.inProgress = false) : ch.offerFifoWord c mark = {
    kind := if mark then .only else .first, source := some (ch.txRegion.wordAt ch.tx.free 0), owner := .streamWord c,
    after := { ch with
      tx := { ch.tx with onLine := true, inProgress := !mark, restartMark := false }
      counters := if ch.tx.restartMark then ch.counters.set 5 (advance ch.counters[5]) else ch.counters } } := by
  cases hrestart : ch.tx.restartMark <;>
    simp [Channel.offerFifoWord, Channel.count, ChCounter.index, hoff, hidle, hrestart]

end

end

/-- An answer from the Buffer Memory is driven with the word at its address. -/
theorem State.driveAnswer_word (s : State) (n : Slot) (c : Chan) {a : Answer} {addr : Nat} (h : a.source = some addr)
    (hinside : addr < 4096) : s.driveAnswer n c a =
      finish ((s.setChan c a.after).drive n (slotWord a.kind (Memory.read s.memory addr)) a.owner) := by
  rw [State.driveAnswer, h]
  exact if_pos hinside

/-- Any other answer is driven with the fill value of the channel. -/
theorem State.driveAnswer_fill (s : State) (n : Slot) (c : Chan) {a : Answer} (h : a.source = none) :
    s.driveAnswer n c a =
      finish ((s.setChan c a.after).drive n (slotWord a.kind (s.chan c).config.fillValue) a.owner) := by
  rw [State.driveAnswer, h]

/-- A channel given as it is changes nothing. -/
theorem State.setChan_chan (s : State) (c : Chan) : s.setChan c (s.chan c) = s := by
  simp [State.setChan, State.chan]

/-! ### The report (07 R123) -/

section
variable {s : State} {c : Chan} {bits line : SlotBits} (hlive : s.resetPin = false)
include hlive

theorem exec_txdataReport_streamWord (hline : s.hwi.line = some ⟨bits, .streamWord c⟩) : exec (.txdataReport line) s =
    finish ((s.endLine (clashed bits line)).modChan c Channel.reportStreamWord) := by
  refine (whenLive_live _ hlive).trans ?_
  rw [hline]

theorem exec_txdataReport_streamFill (hline : s.hwi.line = some ⟨bits, .streamFill c⟩) : exec (.txdataReport line) s =
    finish ((s.endLine (clashed bits line)).modChan c (fun ch => ch.count .underruns)) := by
  refine (whenLive_live _ hlive).trans ?_
  rw [hline]

theorem exec_txdataReport_streamEnd (hline : s.hwi.line = some ⟨bits, .streamEnd c⟩) :
    exec (.txdataReport line) s = finish (s.endLine (clashed bits line)) := by
  refine (whenLive_live _ hlive).trans ?_
  rw [hline]

end

/-- The word on the line is freed; where the FIFO was freed before there is none. -/
theorem Channel.reportStreamWord_sent {ch : Channel} (hon : ch.tx.onLine = true) : ch.reportStreamWord = { ch with
    tx := { ch.tx with fifo := ch.tx.fifo.tail, free := (ch.tx.free + 1) % ch.txRegion.capacity, onLine := false } } :=
  if_pos hon

theorem Channel.reportStreamWord_gone {ch : Channel} (hoff : ch.tx.onLine = false) : ch.reportStreamWord = ch :=
  if_neg (by rw [hoff]; exact Bool.false_ne_true)

/-! ### The statement -/

/-- Settles O55: the offer by the rows of Table 28, and the report by whose word is on the line. -/
theorem streamSlotsSendTheFifo : Obligations.StreamSlotsSendTheFifo := by
  unfold Obligations.StreamSlotsSendTheFifo
  refine ⟨?_, ?_⟩
  · rintro s n c ch u hlive hquiet hready huse rfl hmode rfl
    have hoffer : (s.chan c).offer c = (s.chan c).offerStream c := by simp only [Channel.offer, hmode]
    have hsome {a : Answer} (h : (s.chan c).offerStream c = some a) :=
      exec_txdataOffer_some hlive hquiet hready huse (hoffer.trans h)
    have hnone (h : (s.chan c).offerStream c = none) :=
      exec_txdataOffer_none hlive hquiet hready huse (hoffer.trans h)
    refine ⟨fun hidle => ?_, fun hst => ?_⟩
    · exact hnone (Channel.offerStream_idle c fun hsending =>
        ((Channel.streamSending_iff _).mp hsending).elim hidle.1 hidle.2)
    have hsending := (Channel.streamSending_iff (s.chan c)).mpr hst
    refine ⟨fun hpending => ?_, fun mark rest addr hpending hoff hfifo haddr hinside => ?_,
      fun hpending hoff hfifo => ?_⟩
    · rw [hsome (Channel.offerStream_pendingEnd c hsending hpending)]
      exact s.driveAnswer_fill n c rfl
    · have hword := Channel.offerStream_word c hsending hpending hoff hfifo
      have hsource : some ((s.chan c).txRegion.wordAt (s.chan c).tx.free 0) = some addr := congrArg some haddr.symm
      refine ⟨fun hprogress => ?_, fun hidle => ?_⟩
      · rw [Channel.offerFifoWord_continues c mark hoff hprogress] at hword
        rw [hsome hword]
        exact s.driveAnswer_word n c hsource hinside
      · rw [Channel.offerFifoWord_begins c mark hoff hidle] at hword
        rw [hsome hword]
        exact s.driveAnswer_word n c hsource hinside
    · have hempty := Channel.offerStream_empty c hsending hpending hoff hfifo
      refine ⟨fun hprogress => ?_, fun hidle => ?_⟩
      · rw [hsome (hempty.trans (if_pos hprogress)), s.driveAnswer_fill n c rfl, State.setChan_chan]
        rfl
      · exact hnone (hempty.trans (if_neg (by rw [hidle]; exact Bool.false_ne_true)))
  · intro s u c ch bits line clash hlive hch hclash hu
    subst hch
    have hended : s.endLine (clashed bits line) = u := by rw [clashed_eq hclash, s.endLine_eq clash, hu]
    have hchan : u.chan c = s.chan c := by rw [hu]; rfl
    refine ⟨fun hline hon => ?_, fun hline hoff => ?_, fun hline => ?_, fun hline => ?_⟩
    · rw [exec_txdataReport_streamWord hlive hline, hended, State.modChan, hchan, Channel.reportStreamWord_sent hon]
      rfl
    · rw [exec_txdataReport_streamWord hlive hline, hended, State.modChan, hchan, Channel.reportStreamWord_gone hoff,
        ← hchan, State.setChan_chan]
      rfl
    · rw [exec_txdataReport_streamFill hlive hline, hended, State.modChan, hchan]
      rfl
    · rw [exec_txdataReport_streamEnd hlive hline, hended]
      rfl

end Sys2Proof.Machine
end

section
/-! SUPPORT. Record assembly: what a data word does to the records, by its kind, the open record and the room there is
(08 R129, R132 to R137). -/

namespace Sys2Proof.Machine

-- One theorem after another, as in the tests: many at once ask for more threads than there are.
set_option Elab.async false

/-! ### The newest record (08 R128) -/

/-- An open record is the last of the list. -/
theorem RxSide.records_of_open {x : RxSide} {r : RxRecord} (h : x.openRecord = some r) :
    x.records = x.records.dropLast ++ [r] :=
  (List.dropLast_append_getLast? r (RxSide.openRecord_some h).1).symm

theorem updateNewest_append (f : RxRecord → RxRecord) (l : List RxRecord) (r : RxRecord) :
    updateNewest f (l ++ [r]) = l ++ [f r] := by
  rw [updateNewest_eq f List.getLast?_concat, List.dropLast_concat]

/-- The channel with its list of records replaced. -/
def Channel.withRecords (ch : Channel) (l : List RxRecord) : Channel := { ch with rx := { ch.rx with records := l } }

/-- The record that a First or an Only begins, before its word is stored (08 R132 step 3). -/
def RxRecord.begun (frame : Word) : RxRecord :=
  { length := 0, complete := false, flags := RxFlags.clear, firstFrame := frame, lastFrame := none, readPos := 0 }

/-- A record that closes with the last frame `frame` and no further flag (08 R133, R135). -/
def RxRecord.ended (r : RxRecord) (frame : Word) : RxRecord := { r with complete := true, lastFrame := some frame }

/-- A record that closes Broken, its last frame invalid (08 R132 step 1). -/
def RxRecord.brokenOff (r : RxRecord) : RxRecord :=
  { r with complete := true, flags := { r.flags with broken := true }, lastFrame := none }

section
variable (ch : Channel) (frame : Word)

theorem Channel.pushRecord_records :
    (ch.pushRecord frame).rx.records = ch.rx.records ++ [RxRecord.begun frame] := rfl

section
variable {l : List RxRecord} {r : RxRecord} (hrecords : ch.rx.records = l ++ [r])
include hrecords

theorem Channel.modNewest_append (f : RxRecord → RxRecord) : ch.modNewest f = ch.withRecords (l ++ [f r]) := by
  rw [Channel.modNewest, hrecords, updateNewest_append]
  rfl

/-- The newest record closes with a last frame: RxTrouble is raised if it has a flag (08 R129). -/
theorem Channel.closeOpen_ended (hr : r.complete = false) :
    ch.closeOpen (fun f => f) (some frame) = { ch.withRecords (l ++ [r.ended frame]) with
      latches := if r.flags.any then ch.latches ||| BitVec.twoPow 4 3 else ch.latches } := by
  have hopen : ch.rx.openRecord = some r := by
    have hrx : ch.rx = ⟨ch.rx.free, l ++ [r], ch.rx.discard⟩ := by rw [← hrecords]
    rw [hrx]
    exact RxSide.openRecord_append _ _ _ _ hr
  rw [ch.closeOpen_some _ _ hopen, hrecords, List.dropLast_concat]
  rfl

/-- A word is stored in the newest record where the region has room (08 R136). -/
theorem Channel.storeWord_room (hroom : ch.rx.held < ch.rxRegion.capacity) :
    ch.storeWord = (ch.withRecords (l ++ [{ r with length := r.length + 1 }]), true) := by
  rw [Channel.storeWord, if_pos hroom, ch.modNewest_append hrecords]

/-- A stream channel without room marks the newest record Overrun and counts the word lost (08 R136). -/
theorem Channel.storeWord_full (hfull : ch.rxRegion.capacity ≤ ch.rx.held) (hmode : ch.config.mode = .stream) :
    ch.storeWord = ((ch.withRecords (l ++ [{ r with flags := { r.flags with overrun := true } }])).count .rxWordsLost,
      false) := by
  simp only [Channel.storeWord, if_neg (Nat.not_lt.mpr hfull), hmode, ch.modNewest_append hrecords]

end

/-! ### The record closed by a First or an Only (08 R132 step 1) -/

/-- An open record is closed Broken, which raises RxTrouble, and nothing else changes. -/
theorem Channel.closeBroken_eq : ch.closeBroken = { ch.withRecords (ch.rx.withOpen RxRecord.brokenOff) with
    latches := if ch.rx.openRecord.isSome then ch.latches ||| BitVec.twoPow 4 3 else ch.latches } := by
  cases hopen : ch.rx.openRecord with
  | none =>
    rw [Channel.closeBroken, ch.closeOpen_none _ _ hopen, RxSide.withOpen_none _ hopen]
    rfl
  | some r =>
    rw [Channel.closeBroken, ch.closeOpen_some _ _ hopen, RxSide.withOpen_some _ hopen]
    simp [RxFlags.any, Channel.withRecords, RxRecord.brokenOff]

/-- After a close no record is open (08 R129). -/
@[simp] theorem Channel.closeOpen_openRecord (mark : RxFlags → RxFlags) (last : Option Word) :
    (ch.closeOpen mark last).rx.openRecord = none := by
  cases hopen : ch.rx.openRecord with
  | none => rw [ch.closeOpen_none _ _ hopen, hopen]
  | some r =>
    rw [ch.closeOpen_some _ _ hopen]
    simp [RxSide.openRecord]

/-! ### A First or an Only (08 R132, R133, R137) -/

theorem Channel.assemble_start {k : Kind} (h : k.starts = true) :
    ch.assemble frame k = ch.assembleStart frame (k == .only) := by
  cases k
  case first | only => rfl
  all_goals cases h

/-- On a stream channel with 16 records the message is lost. -/
theorem Channel.assembleStart_lost (isOnly : Bool) (hmode : ch.config.mode = .stream)
    (hmany : 16 ≤ ch.rx.records.length) :
    ch.assembleStart frame isOnly = (ch.closeBroken.loseMessage (!isOnly), false) := by
  have hclose := Channel.Receives.closeBroken ch
  refine if_pos ⟨?_, ?_⟩
  · rw [hclose.only.config, hmode]
  · rw [hclose.records]
    exact hmany

/-- Otherwise a record begins; that of an Only ends with its word. -/
theorem Channel.assembleStart_begun (isOnly : Bool)
    (h : ¬ (ch.config.mode = .stream ∧ 16 ≤ ch.rx.records.length)) :
    ch.assembleStart frame isOnly =
      if isOnly then
        ((ch.closeBroken.pushRecord frame).storeWord.1.closeOpen (fun f => f) (some frame),
          (ch.closeBroken.pushRecord frame).storeWord.2)
      else (ch.closeBroken.pushRecord frame).storeWord := by
  have hclose := Channel.Receives.closeBroken ch
  refine if_neg fun hlost => h ⟨?_, ?_⟩
  · rw [← hclose.only.config]
    exact hlost.1
  · have hmany := hlost.2
    rw [hclose.records] at hmany
    exact hmany

/-- The record of a First or an Only as it stands after its word. -/
def RxRecord.started (frame : Word) (isOnly : Bool) (length : Nat) (flags : RxFlags) : RxRecord :=
  { length := length, complete := isOnly, flags := flags, firstFrame := frame,
    lastFrame := if isOnly then some frame else none, readPos := 0 }

section
variable (isOnly : Bool) (hfew : ch.rx.records.length < 16)
include hfew

/-- Where the region has room the new record holds the word. -/
theorem Channel.assembleStart_room (hroom : ch.rx.held < ch.rxRegion.capacity) :
    ch.assembleStart frame isOnly =
      (ch.closeBroken.withRecords (ch.closeBroken.rx.records ++ [.started frame isOnly 1 .clear]), true) := by
  have hpush : ch.Receives (ch.closeBroken.pushRecord frame) false 1 :=
    (Channel.Receives.closeBroken ch).after (.pushRecord _ frame)
  have hstore := (ch.closeBroken.pushRecord frame).storeWord_room (Channel.pushRecord_records _ frame)
    (by rw [hpush.held, hpush.only.rxRegion]; exact hroom)
  rw [ch.assembleStart_begun frame isOnly fun h => absurd h.2 (Nat.not_le.mpr hfew), hstore]
  cases isOnly with
  | false => rfl
  | true =>
    rw [if_pos rfl, Channel.closeOpen_ended _ frame rfl rfl]
    rfl

/-- On a stream channel without room the new record is empty and Overrun, and the word is counted lost. -/
theorem Channel.assembleStart_full (hfull : ch.rxRegion.capacity ≤ ch.rx.held) (hmode : ch.config.mode = .stream) :
    ch.assembleStart frame isOnly =
      ({ (ch.closeBroken.withRecords (ch.closeBroken.rx.records ++
            [.started frame isOnly 0 { RxFlags.clear with overrun := true }])).count .rxWordsLost with
          latches := if isOnly then ch.closeBroken.latches ||| BitVec.twoPow 4 3 else ch.closeBroken.latches },
        false) := by
  have hpush : ch.Receives (ch.closeBroken.pushRecord frame) false 1 :=
    (Channel.Receives.closeBroken ch).after (.pushRecord _ frame)
  have hstore := (ch.closeBroken.pushRecord frame).storeWord_full (Channel.pushRecord_records _ frame)
    (by rw [hpush.held, hpush.only.rxRegion]; exact hfull) (by rw [hpush.only.config]; exact hmode)
  rw [ch.assembleStart_begun frame isOnly fun h => absurd h.2 (Nat.not_le.mpr hfew), hstore]
  cases isOnly with
  | false => rfl
  | true =>
    rw [if_pos rfl, Channel.closeOpen_ended _ frame rfl rfl]
    rfl

end

/-! ### A Middle or a Last (08 R134 to R136) -/

/-- What a Middle or a Last does with its word before a Last ends the record: it is beyond the maximum length, or goes
to the region (08 R135). -/
def Channel.continueRecord (r : RxRecord) : Channel × Bool :=
  if ch.config.maxLength ≤ r.length then
    (ch.modNewest (fun r => { r with flags := { r.flags with truncated := true } }), false)
  else ch.storeWord

theorem Channel.assemble_orphan {k : Kind} (hk : k = .middle ∨ k = .last) (hopen : ch.rx.openRecord = none) :
    ch.assemble frame k = ((ch.count .orphans).raise .rxTrouble, false) := by
  rcases hk with rfl | rfl <;> simp only [Channel.assemble, Channel.assembleRest, hopen]

section
variable {r : RxRecord} (hopen : ch.rx.openRecord = some r)
include hopen

theorem Channel.assemble_middle : ch.assemble frame .middle = ch.continueRecord r := by
  simp only [Channel.assemble, Channel.assembleRest, hopen]
  rfl

theorem Channel.assemble_last : ch.assemble frame .last =
    ((ch.continueRecord r).1.closeOpen (fun f => f) (some frame), (ch.continueRecord r).2) := by
  simp only [Channel.assemble, Channel.assembleRest, hopen]
  rfl

theorem Channel.continueRecord_truncated (hlong : ch.config.maxLength ≤ r.length) : ch.continueRecord r =
    (ch.withRecords (ch.rx.records.dropLast ++ [{ r with flags := { r.flags with truncated := true } }]), false) := by
  rw [Channel.continueRecord, if_pos hlong, ch.modNewest_append (RxSide.records_of_open hopen)]

section
variable (hshort : r.length < ch.config.maxLength)
include hshort

theorem Channel.continueRecord_room (hroom : ch.rx.held < ch.rxRegion.capacity) : ch.continueRecord r =
    (ch.withRecords (ch.rx.records.dropLast ++ [{ r with length := r.length + 1 }]), true) := by
  rw [Channel.continueRecord, if_neg (Nat.not_le.mpr hshort), ch.storeWord_room (RxSide.records_of_open hopen) hroom]

theorem Channel.continueRecord_full (hfull : ch.rxRegion.capacity ≤ ch.rx.held) (hmode : ch.config.mode = .stream) :
    ch.continueRecord r =
      ((ch.withRecords (ch.rx.records.dropLast ++
        [{ r with flags := { r.flags with overrun := true } }])).count .rxWordsLost, false) := by
  rw [Channel.continueRecord, if_neg (Nat.not_le.mpr hshort),
    ch.storeWord_full (RxSide.records_of_open hopen) hfull hmode]

end

/-- A Last ends the record that it continues. -/
theorem Channel.assemble_last_ended {b : Channel} {stored : Bool} {l : List RxRecord} {q : RxRecord}
    (hword : ch.continueRecord r = (b, stored)) (hrecords : b.rx.records = l ++ [q]) (hq : q.complete = r.complete) :
    ch.assemble frame .last = ({ b.withRecords (l ++ [q.ended frame]) with
      latches := if q.flags.any then b.latches ||| BitVec.twoPow 4 3 else b.latches }, stored) := by
  rw [ch.assemble_last frame hopen, hword]
  dsimp only
  rw [b.closeOpen_ended frame hrecords (hq.trans (RxSide.openRecord_some hopen).2)]

end

/-! ### What assembly leaves (08 R132 to R137) -/

/-- The receiving side but for its records. -/
def RxSide.aside (x : RxSide) : Nat × Bool := (x.free, x.discard)

theorem Channel.closeOpen_aside (mark : RxFlags → RxFlags) (last : Option Word) :
    (ch.closeOpen mark last).rx.aside = ch.rx.aside := by
  cases hopen : ch.rx.openRecord with
  | none => rw [ch.closeOpen_none _ _ hopen]
  | some r =>
    rw [ch.closeOpen_some _ _ hopen]
    rfl

theorem Channel.storeWord_aside : ch.storeWord.1.rx.aside = ch.rx.aside := by
  unfold Channel.storeWord
  split
  · rfl
  · split <;> rfl

theorem Channel.assembleRest_aside (isLast : Bool) : (ch.assembleRest frame isLast).1.rx.aside = ch.rx.aside := by
  have hcontinue (r : RxRecord) : (ch.continueRecord r).1.rx.aside = ch.rx.aside := by
    unfold Channel.continueRecord
    split
    · rfl
    · exact ch.storeWord_aside
  unfold Channel.assembleRest
  split
  · rfl
  · dsimp only
    split
    · exact (Channel.closeOpen_aside _ _ _).trans (hcontinue _)
    · exact hcontinue _

/-- A First or an Only that begins a record leaves the discard state; a lost First enters it. -/
theorem Channel.assembleStart_aside (isOnly : Bool) : (ch.assembleStart frame isOnly).1.rx.aside =
    if ch.config.mode = .stream ∧ 16 ≤ ch.rx.records.length then (ch.rx.free, ch.rx.discard || !isOnly)
    else ch.rx.aside := by
  have hclose : ch.closeBroken.rx.aside = ch.rx.aside := ch.closeOpen_aside _ _
  split
  case isTrue hlost =>
    rw [ch.assembleStart_lost frame isOnly hlost.1 hlost.2]
    exact congrArg (fun v : Nat × Bool => (v.1, v.2 || !isOnly)) hclose
  case isFalse hbegun =>
    have hstore : (ch.closeBroken.pushRecord frame).storeWord.1.rx.aside = ch.rx.aside :=
      (Channel.storeWord_aside _).trans hclose
    rw [ch.assembleStart_begun frame isOnly hbegun]
    split
    · exact (Channel.closeOpen_aside _ _ _).trans hstore
    · exact hstore

/-- Assembly leaves the free position, and the discard state but for a lost First. -/
theorem Channel.assemble_aside (k : Kind) : (ch.assemble frame k).1.rx.free = ch.rx.free ∧
    ((ch.assemble frame k).1.rx.discard ≠ ch.rx.discard →
      k = .first ∧ ch.config.mode = .stream ∧ 16 ≤ ch.rx.records.length) := by
  have hkept (b : Channel) (P : Prop) (h : b.rx.aside = ch.rx.aside) :
      b.rx.free = ch.rx.free ∧ (b.rx.discard ≠ ch.rx.discard → P) :=
    ⟨congrArg Prod.fst h, fun hne => absurd (congrArg Prod.snd h) hne⟩
  have hstart := ch.assembleStart_aside frame
  cases k
  case first =>
    by_cases hlost : ch.config.mode = .stream ∧ 16 ≤ ch.rx.records.length
    · refine ⟨?_, fun _ => ⟨rfl, hlost⟩⟩
      exact (congrArg Prod.fst (hstart false)).trans (by rw [if_pos hlost])
    · exact hkept _ _ ((hstart false).trans (if_neg hlost))
  case only =>
    refine hkept _ _ ((hstart true).trans ?_)
    split
    · simp [RxSide.aside]
    · rfl
  case middle | last => exact hkept _ _ (ch.assembleRest_aside frame _)
  all_goals exact hkept _ _ rfl

/-- Assembly changes the records, the discard state, the counters and the latches, and nothing else. -/
theorem Channel.assemble_frame (k : Kind) : (ch.assemble frame k).1 = { ch with
    rx := { ch.rx with
      records := (ch.assemble frame k).1.rx.records, discard := (ch.assemble frame k).1.rx.discard }
    counters := (ch.assemble frame k).1.counters
    latches := (ch.assemble frame k).1.latches } := by
  obtain ⟨hconfig, htxRegion, hrxRegion, hlink, hprobe, hword, hmsg, hcredits, htx⟩ :=
    (Channel.Receives.assemble ch frame k).only
  obtain ⟨hfree, -⟩ := ch.assemble_aside frame k
  rw [← hconfig, ← htxRegion, ← hrxRegion, ← hlink, ← hprobe, ← hword, ← hmsg, ← hcredits, ← htx]
  dsimp only
  rw [← hfree]

end

/-! ### The statement -/

/-- RxTrouble raised by two parts of a word stands latched where either raised it. -/
theorem latched_twice (x m : BitVec 4) (p q : Prop) [Decidable p] [Decidable q] :
    (if q then (if p then x ||| m else x) ||| m else if p then x ||| m else x) = if p ∨ q then x ||| m else x := by
  have hagain : x ||| m ||| m = x ||| m := by rw [BitVec.or_assoc, BitVec.or_self]
  by_cases hp : p <;> by_cases hq : q <;> simp [hp, hq, hagain]

theorem Kind.starts_iff (k : Kind) : k.starts = true ↔ k = .first ∨ k = .only := by cases k <;> decide

/-- Settles O29: the frame of assembly, then each kind by the open record and the room there is. -/
theorem assemblyBuildsRecords : Obligations.AssemblyBuildsRecords := by
  unfold Obligations.AssemblyBuildsRecords
  intro ch ch' frame stored
  have hbroken := ch.closeBroken_eq
  refine ⟨fun k h => ?_, fun k hk hopen h => ?_,
    fun r hopen h => ⟨fun hlong => ?_, fun hshort hroom => ?_, fun hshort hfull hmode => ?_⟩,
    fun r hopen h hshort hroom => ?_, fun r hopen h => ⟨fun hlong => ?_, fun hshort hfull hmode => ?_⟩,
    fun k hk h hfew hfull hmode => ?_, fun k hk h hfew hroom => ?_, fun k hk h hmode hmany => ?_⟩
  · have hframe := ch.assemble_frame frame k
    have haside := ch.assemble_aside frame k
    rw [h] at hframe haside
    exact ⟨hframe, haside.2⟩
  · rw [ch.assemble_orphan frame hk hopen] at h
    cases h
    exact ⟨rfl, rfl, rfl, rfl⟩
  · rw [ch.assemble_middle frame hopen, ch.continueRecord_truncated hopen hlong] at h
    cases h
    exact ⟨rfl, rfl, rfl, rfl⟩
  · rw [ch.assemble_middle frame hopen, ch.continueRecord_room hopen hshort hroom] at h
    cases h
    exact ⟨rfl, rfl, rfl, rfl⟩
  · rw [ch.assemble_middle frame hopen, ch.continueRecord_full hopen hshort hfull hmode] at h
    cases h
    exact ⟨rfl, rfl, rfl, rfl⟩
  · rw [ch.assemble_last_ended frame hopen (ch.continueRecord_room hopen hshort hroom) rfl rfl] at h
    cases h
    exact ⟨rfl, rfl, rfl, rfl⟩
  · rw [ch.assemble_last_ended frame hopen (ch.continueRecord_truncated hopen hlong) rfl rfl] at h
    cases h
    exact ⟨rfl, rfl, if_pos (by simp [RxFlags.any]), rfl⟩
  · rw [ch.assemble_last_ended frame hopen (ch.continueRecord_full hopen hshort hfull hmode) rfl rfl] at h
    cases h
    exact ⟨rfl, rfl, if_pos (by simp [RxFlags.any]), rfl⟩
  · rw [ch.assemble_start frame hk, ch.assembleStart_full frame _ hfew hfull hmode, hbroken] at h
    cases h
    refine ⟨rfl, rfl, ?_, ?_⟩
    · exact (latched_twice _ _ _ _).trans (by simp only [beq_iff_eq])
    · rcases k.starts_iff.mp hk with rfl | rfl <;> rfl
  · rw [ch.assemble_start frame hk, ch.assembleStart_room frame _ hfew hroom, hbroken] at h
    cases h
    refine ⟨rfl, rfl, rfl, ?_⟩
    rcases k.starts_iff.mp hk with rfl | rfl <;> rfl
  · rw [ch.assemble_start frame hk, ch.assembleStart_lost frame _ hmode hmany] at h
    cases h
    have hclose := Channel.Receives.closeBroken ch
    refine ⟨rfl, ?_, ?_, hclose.held, ch.closeOpen_openRecord _ _, hclose.records, ?_, ?_⟩
    · rw [hbroken]
      rfl
    · rw [hbroken]
      exact (latched_twice ch.latches (BitVec.twoPow 4 3) (ch.rx.openRecord.isSome = true) True).trans
        (if_pos (.inr trivial))
    · rw [hbroken]
      rcases k.starts_iff.mp hk with rfl | rfl <;> rfl
    · rw [hbroken]
      rfl

end Sys2Proof.Machine
end

section
/-! SUPPORT. Record lists: what keeps all but the newest record complete and every read position within the length
stored (08 R128). -/

namespace Sys2Proof.Machine

-- One theorem after another, as in the tests: many at once ask for more threads than there are.
set_option Elab.async false

/-- Only the newest record may be incomplete, and no read position passes the length stored (08 R128). -/
structure RecordsSound (l : List RxRecord) : Prop where
  older : ∀ r ∈ l.dropLast, r.complete = true
  read : ∀ r ∈ l, r.readPos ≤ r.length

namespace RecordsSound

theorem nil : RecordsSound [] := ⟨fun _ h => absurd h List.not_mem_nil, fun _ h => absurd h List.not_mem_nil⟩

/-- A record joins records that are all complete. -/
theorem append {l : List RxRecord} {r : RxRecord} (older : ∀ q ∈ l, q.complete = true)
    (read : ∀ q ∈ l, q.readPos ≤ q.length) (hr : r.readPos ≤ r.length) : RecordsSound (l ++ [r]) where
  older q hq := older q (by rwa [List.dropLast_concat] at hq)
  read q hq := by
    rcases List.mem_append.mp hq with hold | hnew
    · exact read q hold
    · rw [List.mem_singleton.mp hnew]
      exact hr

section
variable {l : List RxRecord} (hl : RecordsSound l)
include hl

/-- Another record in the place of the newest. -/
theorem newest {r : RxRecord} (hr : r.readPos ≤ r.length) : RecordsSound (l.dropLast ++ [r]) :=
  append hl.older (fun q hq => hl.read q (List.mem_of_mem_dropLast hq)) hr

/-- A change of the newest record that leaves its read position within its length. -/
theorem updateNewest {f : RxRecord → RxRecord} (hf : ∀ r, r.readPos ≤ r.length → (f r).readPos ≤ (f r).length) :
    RecordsSound (updateNewest f l) := by
  cases hlast : l.getLast? with
  | none =>
    rw [List.getLast?_eq_none_iff.mp hlast]
    exact nil
  | some r =>
    rw [updateNewest_eq f hlast]
    exact hl.newest (hf r (hl.read r (List.mem_of_getLast? hlast)))

end

section
variable {r : RxRecord} {rest : List RxRecord} (hl : RecordsSound (r :: rest))
include hl

/-- The head leaves the list. -/
theorem tail : RecordsSound rest := by
  refine ⟨fun q hq => hl.older q ?_, fun q hq => hl.read q (List.mem_cons_of_mem r hq)⟩
  cases rest with
  | nil => cases hq
  | cons p rest => exact List.mem_cons_of_mem r hq

/-- The head changes, complete as it was. -/
theorem head {r' : RxRecord} (hcomplete : r'.complete = r.complete) (hr' : r'.readPos ≤ r'.length) :
    RecordsSound (r' :: rest) := by
  refine ⟨?_, List.forall_mem_cons.mpr ⟨hr', hl.tail.read⟩⟩
  cases rest with
  | nil => exact fun _ h => absurd h List.not_mem_nil
  | cons p rest =>
    obtain ⟨hhead, hrest⟩ := List.forall_mem_cons.mp hl.older
    exact List.forall_mem_cons.mpr ⟨hcomplete.trans hhead, hrest⟩

end

/-- With no record open all records are complete. -/
theorem all_complete {x : RxSide} (hx : RecordsSound x.records) (hopen : x.openRecord = none) :
    ∀ r ∈ x.records, r.complete = true := by
  cases hlast : x.records.getLast? with
  | none =>
    rw [List.getLast?_eq_none_iff.mp hlast]
    exact fun _ h => absurd h List.not_mem_nil
  | some q =>
    have hq : q.complete = true := by simpa [RxSide.openRecord, hlast] using hopen
    rw [← List.dropLast_append_getLast? q hlast]
    intro r hr
    rcases List.mem_append.mp hr with hold | hnew
    · exact hx.older r hold
    · rw [List.mem_singleton.mp hnew]
      exact hq

end RecordsSound

/-! ### The open record (08 R128) -/

/-- The records alone say which one is open. -/
theorem RxSide.openRecord_congr {x y : RxSide} (h : x.records = y.records) : x.openRecord = y.openRecord := by
  rw [RxSide.openRecord, h]
  rfl

theorem RxSide.openRecord_isSome_iff (x : RxSide) :
    x.openRecord.isSome = true ↔ ∃ r, x.records.getLast? = some r ∧ r.complete = false := by
  unfold RxSide.openRecord
  split
  · rename_i r hlast
    cases hr : r.complete <;> simp [hlast, hr]
  · rename_i hlast
    simp [hlast]

section
variable (ch : Channel) (frame : Word)

/-! ### Operations that keep the records sound (08 R129, R132 to R137) -/

theorem Channel.closeOpen_sound (mark : RxFlags → RxFlags) (last : Option Word) (h : RecordsSound ch.rx.records) :
    RecordsSound (ch.closeOpen mark last).rx.records := by
  cases hopen : ch.rx.openRecord with
  | none => rwa [ch.closeOpen_none _ _ hopen]
  | some r =>
    rw [ch.closeOpen_some _ _ hopen]
    exact h.newest (h.read r (List.mem_of_getLast? (RxSide.openRecord_some hopen).1))

theorem Channel.damageOpen_sound (h : RecordsSound ch.rx.records) : RecordsSound ch.damageOpen.rx.records := by
  unfold Channel.damageOpen
  split
  · exact h
  · exact h.updateNewest fun _ => id

/-- A stored word makes the newest record longer, and a word that is not stored leaves it as long as it was. -/
theorem Channel.storeWord_sound (h : RecordsSound ch.rx.records) : RecordsSound ch.storeWord.1.rx.records := by
  unfold Channel.storeWord
  split
  · exact h.updateNewest fun _ => Nat.le_succ_of_le
  · split
    · exact h
    · exact h.updateNewest fun _ => id

theorem Channel.continueRecord_sound (r : RxRecord) (h : RecordsSound ch.rx.records) :
    RecordsSound (ch.continueRecord r).1.rx.records := by
  unfold Channel.continueRecord
  split
  · exact h.updateNewest fun _ => id
  · exact ch.storeWord_sound h

/-- A record begins when the open one is closed, so that it alone is incomplete. -/
theorem Channel.assembleStart_sound (isOnly : Bool) (h : RecordsSound ch.rx.records) :
    RecordsSound (ch.assembleStart frame isOnly).1.rx.records := by
  have hclosed : RecordsSound ch.closeBroken.rx.records := ch.closeOpen_sound _ _ h
  by_cases hlost : ch.config.mode = .stream ∧ 16 ≤ ch.rx.records.length
  · rw [ch.assembleStart_lost frame isOnly hlost.1 hlost.2]
    exact hclosed
  · have hbegun : RecordsSound (ch.closeBroken.pushRecord frame).rx.records :=
      .append (hclosed.all_complete (ch.closeOpen_openRecord _ _)) hclosed.read (Nat.le_refl 0)
    have hstored := Channel.storeWord_sound _ hbegun
    rw [ch.assembleStart_begun frame isOnly hlost]
    split
    · exact Channel.closeOpen_sound _ _ _ hstored
    · exact hstored

theorem Channel.assemble_sound (k : Kind) (h : RecordsSound ch.rx.records) :
    RecordsSound (ch.assemble frame k).1.rx.records := by
  have hrest (isLast : Bool) : RecordsSound (ch.assembleRest frame isLast).1.rx.records := by
    unfold Channel.assembleRest
    split
    · exact h
    · rename_i r _
      dsimp only
      split
      · exact Channel.closeOpen_sound _ _ _ (ch.continueRecord_sound r h)
      · exact ch.continueRecord_sound r h
  cases k
  case first | only => exact ch.assembleStart_sound frame _ h
  case middle | last => exact hrest _
  all_goals exact h

end

end Sys2Proof.Machine
end

section
/-! SUPPORT. The records of a channel stay in order in every step, and a record is open only while the channel receives
and discards nothing (05 R72, 08 R128 to R130). -/

namespace Sys2Proof.Machine

-- One theorem after another, as in the tests: many at once ask for more threads than there are.
set_option Elab.async false

/-! ### What the rule speaks of -/

/-- The records are sound, and one is open only in a receiving state with no discard state in force. -/
structure Channel.RecordsInOrder (ch : Channel) : Prop where
  sound : RecordsSound ch.rx.records
  service : ch.rx.openRecord.isSome = true → ch.receiving = true ∧ ch.rx.discard = false

theorem recordsInOrder_iff (s : State) : RecordsInOrder s ↔ ∀ c : Chan, (s.chan c).RecordsInOrder :=
  forall_congr' fun _ => ⟨fun ⟨holder, hread, hservice⟩ => ⟨⟨holder, hread⟩, hservice⟩,
    fun ⟨⟨holder, hread⟩, hservice⟩ => ⟨holder, hread, hservice⟩⟩

/-- The link record and the mode say whether a channel receives. -/
theorem Channel.receiving_of_timed {a b : Channel} (h : b.timed = a.timed) : b.receiving = a.receiving := by
  simp only [Channel.timed, Prod.mk.injEq] at h
  rw [Channel.receiving, h.1, h.2.1]
  rfl

/-- The receiving states are connected in either mode. -/
theorem Channel.receiving_connected {ch : Channel} (h : ch.receiving = true) : ch.link.state.connected = true := by
  unfold Channel.receiving at h
  split at h
  · exact h
  · rw [Bool.or_eq_true, beq_iff_eq, beq_iff_eq] at h
    rcases h with hst | hst <;> rw [hst] <;> rfl

theorem Channel.receiving_of_credit {ch : Channel} (hmode : ch.config.mode = .credit)
    (hst : ch.link.state.connected = true) : ch.receiving = true := by
  simpa only [Channel.receiving, hmode] using hst

/-- A move changes the link state and the latches (03 R47). -/
theorem Channel.moveTo_rx (ch : Channel) (st : LinkState) :
    (ch.moveTo st).rx = ch.rx ∧ (ch.moveTo st).config = ch.config := by
  unfold Channel.moveTo
  split <;> exact ⟨rfl, rfl⟩

/-- An entry into OPEN touches no record (05 R74). -/
theorem Channel.afterEntry_records (ch : Channel) (h : ch.link.state ≠ .opened) :
    ch.afterEntry.rx.records = ch.rx.records := by
  cases hmode : ch.config.mode with
  | credit => rw [ch.afterEntry_credit hmode h]
  | stream => rw [ch.afterEntry_stream hmode h]

namespace Channel.RecordsInOrder

/-! ### What gives it -/

/-- With no record open there is no more to ask than that the records are sound. -/
theorem of_none {b : Channel} (sound : RecordsSound b.rx.records) (hopen : b.rx.openRecord = none) :
    b.RecordsInOrder :=
  ⟨sound, fun h => by rw [hopen] at h; cases h⟩

/-- A channel without records. -/
theorem of_empty {b : Channel} (hempty : b.rx.records = []) : b.RecordsInOrder := by
  refine of_none ?_ (RxSide.openRecord_congr (y := .reset) hempty)
  rw [hempty]
  exact .nil

section
variable {a b : Channel} (ha : a.RecordsInOrder)
include ha

/-- What leaves the records, the discard state, the link record and the mode. -/
theorem of_same (timed : b.timed = a.timed := by rfl) (records : b.rx.records = a.rx.records := by rfl)
    (discard : b.rx.discard = a.rx.discard := by rfl) : b.RecordsInOrder := by
  refine ⟨records ▸ ha.sound, fun hopen => ?_⟩
  rw [Channel.receiving_of_timed timed, discard]
  exact ha.service (RxSide.openRecord_congr records ▸ hopen)

/-- Outside the connected states no record is open. -/
theorem openRecord_of_unconnected (h : a.link.state.connected = false) : a.rx.openRecord = none := by
  cases hopen : a.rx.openRecord with
  | none => rfl
  | some r =>
    rw [Channel.receiving_connected (ha.service (by rw [hopen]; rfl)).1] at h
    cases h

/-- In the discard state no record is open (08 R130). -/
theorem openRecord_of_discard (h : a.rx.discard = true) : a.rx.openRecord = none := by
  cases hopen : a.rx.openRecord with
  | none => rfl
  | some r =>
    rw [(ha.service (by rw [hopen]; rfl)).2] at h
    cases h

/-- What leaves the records, of which none is open. -/
theorem of_closed (hopen : a.rx.openRecord = none) (records : b.rx.records = a.rx.records := by rfl) :
    b.RecordsInOrder :=
  of_none (records ▸ ha.sound) ((RxSide.openRecord_congr records).trans hopen)

/-- The same records from a state that is not connected. -/
theorem of_unconnected (h : a.link.state.connected = false) (records : b.rx.records = a.rx.records := by rfl) :
    b.RecordsInOrder :=
  ha.of_closed (ha.openRecord_of_unconnected h) records

/-- Closing the open record, whatever follows of the discard state and the link. -/
theorem of_closeOpen {mark : RxFlags → RxFlags} {last : Option Word}
    (records : b.rx.records = (a.closeOpen mark last).rx.records := by rfl) : b.RecordsInOrder :=
  of_none (records ▸ a.closeOpen_sound mark last ha.sound)
    ((RxSide.openRecord_congr records).trans (a.closeOpen_openRecord mark last))

/-! ### Moves between link states (05) -/

/-- A move between receiving states. -/
theorem moveTo {st : LinkState} (hreceiving : (a.moveTo st).receiving = true) : (a.moveTo st).RecordsInOrder := by
  obtain ⟨hrx, -⟩ := a.moveTo_rx st
  refine ⟨by rw [hrx]; exact ha.sound, fun hopen => ⟨hreceiving, ?_⟩⟩
  rw [hrx] at hopen ⊢
  exact (ha.service hopen).2

/-- A credit channel receives in every connected state. -/
theorem moveTo_credit {st : LinkState} (hmode : a.config.mode = .credit) (hst : st.connected = true) :
    (a.moveTo st).RecordsInOrder := by
  refine ha.moveTo (Channel.receiving_of_credit ?_ ?_)
  · rw [(a.moveTo_rx st).2, hmode]
  · rw [Channel.moveTo_state, hst]

/-- A stream channel receives in DRAIN as in OPEN. -/
theorem moveTo_drain (hmode : a.config.mode = .stream) : (a.moveTo .drain).RecordsInOrder := by
  refine ha.moveTo ?_
  have hconfig := (a.moveTo_rx .drain).2
  simp only [Channel.receiving, hconfig, hmode, Channel.moveTo_state]
  rfl

/-- A channel leaves the connected states with its open record aborted (05 R72, R73). -/
theorem afterClearDown (cause : Cause) (hst : a.link.state.connected = true) :
    (a.afterClearDown cause).RecordsInOrder := by
  have hlive : a.link.state ≠ .closed := fun h => by rw [h] at hst; cases hst
  exact ha.of_closeOpen (by rw [a.afterClearDown_eq cause hlive]; rfl)

/-! ### Words from an RxData slot (06 R98 to R101, 08 R130 to R137) -/

/-- Assembly begins and continues a record outside the discard state; a lost First enters it with none open. -/
theorem assemble (frame : Word) (k : Kind) (hreceiving : a.receiving = true) (hdiscard : a.rx.discard = false) :
    (a.assemble frame k).1.RecordsInOrder := by
  refine ⟨a.assemble_sound frame k ha.sound, fun hopen => ⟨?_, ?_⟩⟩
  · rw [Channel.receiving_of_timed (a.assemble_timed frame k), hreceiving]
  · refine Bool.eq_false_of_not_eq_true fun hset => ?_
    obtain ⟨rfl, hmode, hmany⟩ := (a.assemble_aside frame k).2 (by rw [hset, hdiscard]; decide)
    have hnone : (a.assemble frame .first).1.rx.openRecord = none := by
      rw [a.assemble_start frame rfl, a.assembleStart_lost frame _ hmode hmany]
      exact a.closeOpen_openRecord _ _
    rw [hnone] at hopen
    cases hopen

/-- The Damaged mark leaves the open record open. -/
theorem damageOpen : a.damageOpen.RecordsInOrder := by
  refine ⟨a.damageOpen_sound ha.sound, fun hopen => ?_⟩
  rw [Channel.receiving_of_timed a.damageOpen_timed]
  cases hbefore : a.rx.openRecord with
  | none =>
    rw [a.damageOpen_eq.1 hbefore, hbefore] at hopen
    cases hopen
  | some r =>
    rw [a.damageOpen_eq.2 r hbefore]
    exact ha.service (by rw [hbefore]; rfl)

/-- A violation closes the open record where it may enter the discard state (06 R99). -/
theorem violation (frame : Word) (k : Kind) : (a.violation frame k).RecordsInOrder := by
  have hcounted : ((a.count .creditViolations).raise .rxTrouble).RecordsInOrder := ha.of_same
  unfold Channel.violation
  cases k
  case first | only => exact hcounted.of_closeOpen
  case last => exact hcounted.damageOpen.of_closeOpen
  case middle => exact hcounted.damageOpen
  all_goals exact hcounted

theorem grant : a.grant.RecordsInOrder := ha.of_same a.grant_timed (by rw [a.grant_rx]) (by rw [a.grant_rx])

/-- With the discard state ended a record may be open as before. -/
theorem setDiscard_false : (a.setDiscard false).RecordsInOrder :=
  ⟨ha.sound, fun hopen => ⟨(ha.service hopen).1, rfl⟩⟩

theorem creditWord (frame : Word) (k : Kind) (hreceiving : a.receiving = true) :
    (a.creditWord frame k).1.RecordsInOrder := by
  by_cases hviolates : a.violates k = true
  · rw [a.creditWord_violation frame hviolates]
    exact ha.violation frame k
  · by_cases hdiscarded : a.rx.discard = true ∧ k.starts = false
    · obtain ⟨hdiscard, hrest⟩ := hdiscarded
      rw [a.creditWord_discarded frame hviolates hdiscard hrest]
      exact ha.of_closed (ha.openRecord_of_discard hdiscard) (by rw [Channel.grant_rx])
    · have hpass : a.rx.discard = false ∨ k.starts = true := by
        rwa [not_and_or, Bool.not_eq_true, Bool.not_eq_false] at hdiscarded
      have hassembled := ha.setDiscard_false.assemble frame k hreceiving rfl
      rw [a.creditWord_assembled frame hviolates hpass]
      exact (hassembled.of_same (b := Channel.withCredits _ _)).grant

theorem streamWord (frame : Word) (k : Kind) (hreceiving : a.receiving = true) :
    (a.streamWord frame k).1.RecordsInOrder := by
  unfold Channel.streamWord
  split_ifs
  · exact ha.of_same
  · exact ha.setDiscard_false
  · exact ha
  · exact ha.setDiscard_false.assemble frame k hreceiving rfl

theorem dataWord (frame : Word) (k : Kind) (hreceiving : a.receiving = true) :
    (a.dataWord frame k).1.RecordsInOrder := by
  unfold Channel.dataWord
  split
  · exact ha.creditWord frame k hreceiving
  · exact ha.streamWord frame k hreceiving

theorem rxCheckError : a.rxCheckError.RecordsInOrder := by
  unfold Channel.rxCheckError Channel.creditCheckError
  split
  · refine grant (damageOpen ?_)
    split
    · exact ha
    · exact ha.of_same
  · exact ha.damageOpen

/-! ### RELEASE and reads (08 R139, R141) -/

section
variable {r : RxRecord} {rest : List RxRecord} (hrecords : a.rx.records = r :: rest)
include hrecords

/-- The records behind the head hold the open record, if it is not the head. -/
theorem releaseHead : (a.releaseHead r rest).RecordsInOrder := by
  have hsound := ha.sound
  rw [hrecords] at hsound
  refine grant ⟨hsound.tail, fun hopen => ha.service ?_⟩
  rw [RxSide.openRecord_isSome_iff] at hopen ⊢
  obtain ⟨q, hlast, hq⟩ := hopen
  have hlast' : rest.getLast? = some q := hlast
  exact ⟨q, by rw [hrecords, List.getLast?_cons, hlast']; rfl, hq⟩

/-- A word read leaves the head open or complete as it was. -/
theorem advanceRead (hunread : r.readPos < r.length) : (a.advanceRead r rest).RecordsInOrder := by
  have hsound := ha.sound
  rw [hrecords] at hsound
  refine ⟨hsound.head rfl hunread, fun hopen => ha.service ?_⟩
  rw [RxSide.openRecord_isSome_iff] at hopen ⊢
  obtain ⟨q, hlast, hq⟩ := hopen
  rw [hrecords]
  cases rest with
  | nil =>
    cases hlast
    exact ⟨r, rfl, hq⟩
  | cons p rest => exact ⟨q, hlast, hq⟩

end

/-! ### Highway loss (08 R138) -/

theorem loseHighway : a.loseHighway.RecordsInOrder := by
  have hcut : a.cutTx.rx = a.rx := by rw [a.cutTx_eq]
  refine of_none ?_ (a.cutTx.closeOpen_openRecord _ _)
  exact a.cutTx.closeOpen_sound _ _ (hcut ▸ ha.sound)

end

/-! ### Every step -/

/-- Every step keeps the records in order: a channel leaves its receiving states with its open record closed, the
discard state begins with none open, and a record begins when the one before it is closed. -/
theorem step {a b : Channel} (h : Channel.Step a b) (ha : a.RecordsInOrder) : b.RecordsInOrder := by
  have hidle (st : LinkState) (hst : a.link.state = st) (hunconnected : st.connected = false) :
      a.link.state.connected = false := by rw [hst, hunconnected]
  have hheard (after : Channel) (htimed : after.timed = a.timed) (hrx : after.rx = a.rx) :
      (a.endStarvation after).RecordsInOrder := by
    obtain ⟨-, -, hkept⟩ := a.endStarvation_keeps after
    exact ha.of_same ((a.endStarvation_timed after).trans htimed) (by rw [hkept, hrx]) (by rw [hkept, hrx])
  cases h
  case listen hst _ _ _ => exact ha.of_unconnected (hidle _ hst rfl) (by rw [(a.moveTo_rx _).1])
  case startOpening l hbefore =>
    have hrecords : ((a.loadAnswer l).moveTo .opening).rx.records = a.rx.records := by
      rw [((a.loadAnswer l).moveTo_rx _).1]
      rfl
    rcases hbefore with hst | ⟨hst, -⟩ <;> exact ha.of_unconnected (hidle _ hst rfl) hrecords
  case enterOpen hbefore =>
    rcases hbefore with ⟨-, hst | hst⟩ | ⟨-, hst, -⟩ <;>
      exact ha.of_unconnected (hidle _ hst rfl) (a.afterEntry_records (by rw [hst]; decide))
  case drainCredit hmode | yieldOpened hmode _ =>
    exact (ha.of_same (b := a.dropComposing)).moveTo_credit hmode rfl
  case drainStream hmode =>
    split
    · exact (ha.of_same (b := { a with tx := a.tx.endOpenMessage })).moveTo_drain hmode
    · exact ha.moveTo_drain hmode
  case closeWait l hst hmode =>
    have hloaded : (a.loadAnswer l).RecordsInOrder := ⟨ha.sound, ha.service⟩
    exact hloaded.moveTo_credit hmode rfl
  case yieldDrain hmode => exact ha.moveTo_credit hmode rfl
  case clearDown cause hst => exact ha.afterClearDown cause hst
  case giveUp cause hst =>
    rcases hst with hst | hst <;>
      exact ha.of_unconnected (hidle _ hst rfl) (by rw [a.afterGivingUp_eq cause (by rw [hst]; decide)])
  case fail cause hst =>
    exact ha.of_unconnected (hidle _ hst rfl) (by rw [a.afterGivingUp_eq cause (by rw [hst]; decide)])
  case restart hst hmode => exact ha.of_closeOpen (by rw [a.afterRestart_eq hmode hst]; rfl)
  case flush hst => exact of_empty (by rw [a.flush_eq hst])
  case retryAnswer | stopAnswer | restartProbe | countFrame => exact ⟨ha.sound, ha.service⟩
  case resetProbe => exact ha.of_same a.resetProbe_timed
  case marks | latches | counters | tag | post | endOpenMessage | abandonOpenMessage | dropComposing | reportGone
    | refuseWrite | giveTxRegion | giveRxRegion => exact ha.of_same
  case hearWordLevel | hearMsgLevel => exact hheard _ rfl rfl
  case appendWord =>
    unfold Channel.appendWord
    split <;> exact ha.of_same
  case offer hanswers =>
    rw [(a.offer_answer hanswers).1]
    exact ha.of_same
  case reportMore | reportLast => exact ⟨ha.sound, ha.service⟩
  case reportStreamWord =>
    unfold Channel.reportStreamWord
    split
    · exact ha.of_same
    · exact ha
  case dataWord frame k hreceiving => exact ha.dataWord frame k hreceiving
  case checkError => exact ha.rxCheckError
  case release hrecords _ => exact ha.releaseHead hrecords
  case advanceRead hrecords hunread => exact ha.advanceRead hrecords hunread
  case loseHighway => exact ha.loseHighway
  case configure hwritten hfree =>
    rcases hfree with hk | hclosed
    · exact ha.of_same (by simp only [Channel.timed, ChanConfig.write_mode hwritten hk])
    · exact ha.of_unconnected (hidle _ (a.reconfigurable_iff.mp hclosed).1 rfl)

end Channel.RecordsInOrder

/-- Settles O15: each step on a channel keeps its records in order, and both resets empty its list. -/
theorem recordsStayInOrder : Obligations.RecordsStayInOrder := by
  unfold Obligations.RecordsStayInOrder
  intro s t hs hstep
  rw [recordsInOrder_iff] at hs ⊢
  exact step_keeps_channels (fun _ _ => Channel.RecordsInOrder.step) (fun _ => .of_empty rfl) (.of_empty rfl) hs hstep

end Sys2Proof.Machine
end

section
/-! SUPPORT. RELEASE of the head record (08 R141), with the grant that follows on a credit channel in a connected state
(06 R96, R97). -/

namespace Sys2Proof.Machine

-- One theorem after another, as in the tests: many at once ask for more threads than there are.
set_option Elab.async false

/-! ### The row by the head record (08 R141) -/

section
variable {s : State} (hlive : s.resetPin = false)
include hlive

theorem exec_chanRelease_empty (hempty : (s.chan s.host.selected).rx.records = []) :
    exec .chanRelease s = .next (s.setChannelResult .nothing).evaluate := by
  refine (whenLive_live _ hlive).trans ?_
  simp only [State.selectedChan, hempty]
  rfl

section
variable {r : RxRecord} {rest : List RxRecord} (hrecords : (s.chan s.host.selected).rx.records = r :: rest)
include hrecords

theorem exec_chanRelease_open (hopen : r.complete = false) :
    exec .chanRelease s = .next (s.setChannelResult .wrongState).evaluate := by
  refine (whenLive_live _ hlive).trans ?_
  simp only [State.selectedChan, hrecords, hopen]
  rfl

theorem exec_chanRelease_complete (hcomplete : r.complete = true) :
    exec .chanRelease s = .next (State.evaluate ((s.setChan s.host.selected
      ((s.chan s.host.selected).releaseHead r rest)).setChannelResult .done)) := by
  refine (whenLive_live _ hlive).trans ?_
  simp only [State.selectedChan, hrecords, hcomplete]
  rfl

end

end

/-! ### The channel after it (06 R96, 08 R141) -/

/-- The channel with its head record gone and the words of it freed. -/
def Channel.freeHead (ch : Channel) (r : RxRecord) (rest : List RxRecord) : Channel :=
  { ch with rx := { ch.rx with records := rest, free := (ch.rx.free + r.length) % ch.rxRegion.capacity } }

theorem Channel.releaseHead_eq (ch : Channel) (r : RxRecord) (rest : List RxRecord) :
    ch.releaseHead r rest = (ch.freeHead r rest).grant := rfl

section
variable {ch : Channel} {r : RxRecord} {rest : List RxRecord} (hrecords : ch.rx.records = r :: rest)
include hrecords

theorem Channel.held_freeHead : (ch.freeHead r rest).rx.held + r.length = ch.rx.held := by
  simp [RxSide.held, Channel.freeHead, hrecords, Nat.add_comm]

section
variable (hconnected : ch.creditConnected = true)
include hconnected

/-- The grant brings Ow to the room there now is, at most 31 (06 R96). -/
theorem Channel.releaseHead_words
    (hbound : ch.rx.held + ch.credits.outstandingWords ≤ ch.rxRegion.capacity) :
    (ch.releaseHead r rest).credits.outstandingWords = min (ch.rxRegion.capacity - (ch.rx.held - r.length)) 31 ∧
      (ch.releaseHead r rest).wordMark =
        if ch.credits.outstandingWords < min (ch.rxRegion.capacity - (ch.rx.held - r.length)) 31 then Mark.raised
        else ch.wordMark := by
  have hheld := Channel.held_freeHead hrecords
  have hroom : (ch.freeHead r rest).rx.held + ch.credits.outstandingWords ≤ ch.rxRegion.capacity := by omega
  rw [Nat.sub_eq_of_eq_add hheld.symm]
  exact (ch.freeHead r rest).grant_words hconnected hroom

/-- The grant brings Om to the free places, of which there is now one more than before (06 R96). -/
theorem Channel.releaseHead_messages
    (hbound : ch.rx.records.length + ch.credits.outstandingMsgs ≤ 16) :
    (ch.releaseHead r rest).credits.outstandingMsgs = 16 - rest.length ∧
      (ch.releaseHead r rest).msgMark = Mark.raised := by
  rw [hrecords, List.length_cons] at hbound
  have hplaces : rest.length + ch.credits.outstandingMsgs ≤ 16 := by omega
  have hrose : ch.credits.outstandingMsgs < 16 - rest.length := by omega
  obtain ⟨hmsgs, hmark⟩ := (ch.freeHead r rest).grant_messages hconnected hplaces
  exact ⟨hmsgs, hmark.trans (if_pos hrose)⟩

end

end

/-- Settles O41: the row by the head record; then the channel after it, without a grant and with one. -/
theorem releaseFreesTheHead : Obligations.ReleaseFreesTheHead := by
  unfold Obligations.ReleaseFreesTheHead
  rintro s ch hlive rfl
  refine ⟨exec_chanRelease_empty hlive, fun r rest hrecords => ⟨exec_chanRelease_open hlive hrecords,
    fun hcomplete hidle => ?_, fun hcomplete hconnected => ?_⟩⟩
  · have hgrant : ((s.chan s.host.selected).freeHead r rest).grant = (s.chan s.host.selected).freeHead r rest :=
      Channel.grant_of_not_connected _ hidle
    rw [exec_chanRelease_complete hlive hrecords hcomplete, Channel.releaseHead_eq, hgrant]
    rfl
  · exact ⟨(s.chan s.host.selected).releaseHead r rest, exec_chanRelease_complete hlive hrecords hcomplete,
      ((s.chan s.host.selected).freeHead r rest).grant_shape, Channel.releaseHead_words hrecords hconnected,
      Channel.releaseHead_messages hrecords hconnected⟩

end Sys2Proof.Machine
end

section
/-! SUPPORT. The ledger of the reservations, which are the completion entries held and the messages listed (09 R148): a
message that leaves its list becomes an entry, so every operation but POST, POPCQ and the resets keeps it. -/

namespace Sys2Proof.Machine

-- One theorem after another, as in the tests: many at once ask for more threads than there are.
set_option Elab.async false

/-! ### What the balance speaks of -/

/-- Entries held plus messages listed, and the reservations in use (09 R148). -/
def State.ledger (s : State) : Nat × Nat := (s.cq.entries.length + s.listed, s.cq.reservations)

theorem reservationsBalance_iff (s : State) : ReservationsBalance s ↔ s.ledger.1 = s.ledger.2 ∧ s.ledger.2 ≤ 32 :=
  Iff.rfl

theorem State.listed_eq_sum (s : State) : s.listed = ∑ c : Chan, (s.chan c).tx.messages.length :=
  (Fin.sum_univ_def _).symm

theorem State.listed_congr {s t : State} (chans : t.chans = s.chans) : t.listed = s.listed := by
  simp only [State.listed, State.chan, chans]

/-- Another channel at `c` lists its messages in place of those listed there before. -/
theorem State.listed_setChan (s : State) (c : Chan) (ch : Channel) :
    (s.setChan c ch).listed + (s.chan c).tx.messages.length = s.listed + ch.tx.messages.length := by
  have hothers : ∀ d ∈ Finset.univ.erase c, ((s.setChan c ch).chan d).tx.messages.length =
      (s.chan d).tx.messages.length :=
    fun d hd => by rw [State.chan_setChan_ne s c d ch (Finset.ne_of_mem_erase hd)]
  rw [State.listed_eq_sum, State.listed_eq_sum, ← Finset.add_sum_erase _ _ (Finset.mem_univ c),
    ← Finset.add_sum_erase _ (fun d => (s.chan d).tx.messages.length) (Finset.mem_univ c),
    Finset.sum_congr rfl hothers, State.chan_setChan_same]
  omega

/-- A channel that lists one message more adds it to the messages listed. -/
theorem State.listed_modChan_succ (s : State) (c : Chan) {f : Channel → Channel}
    (h : (f (s.chan c)).tx.messages.length = (s.chan c).tx.messages.length + 1) :
    (s.modChan c f).listed = s.listed + 1 := by
  have hlisted := s.listed_setChan c (f (s.chan c))
  rw [h] at hlisted
  unfold State.modChan
  omega

/-! ### What keeps the ledger -/

/-- What changes neither the Completion Queue nor a channel. -/
theorem State.ledger_congr {s t : State} (cq : t.cq = s.cq := by rfl) (chans : t.chans = s.chans := by rfl) :
    t.ledger = s.ledger := by
  rw [State.ledger, State.ledger, cq, State.listed_congr chans]

section
variable (s : State) (c : Chan)

/-- Messages that leave the list of a channel become entries, one for each (09 R148). -/
theorem State.ledger_complete (es : List CqEntry) {ch : Channel}
    (h : ch.tx.messages.length + es.length = (s.chan c).tx.messages.length) :
    ((s.addCompletions es).setChan c ch).ledger = s.ledger := by
  have hlisted : ((s.addCompletions es).setChan c ch).listed + (s.chan c).tx.messages.length =
      s.listed + ch.tx.messages.length := s.listed_setChan c ch
  have hentries : ((s.addCompletions es).setChan c ch).cq.entries.length = s.cq.entries.length + es.length :=
    List.length_append
  refine Prod.ext ?_ rfl
  simp only [State.ledger]
  omega

theorem State.ledger_setChan {ch : Channel} (h : ch.tx.messages.length = (s.chan c).tx.messages.length) :
    (s.setChan c ch).ledger = s.ledger := by
  have hlisted := s.listed_setChan c ch
  have hcq : (s.setChan c ch).cq = s.cq := rfl
  simp only [State.ledger, hcq, Prod.mk.injEq, and_true]
  omega

theorem State.ledger_modChan {f : Channel → Channel}
    (h : (f (s.chan c)).tx.messages.length = (s.chan c).tx.messages.length := by rfl) :
    (s.modChan c f).ledger = s.ledger := s.ledger_setChan c h

theorem State.ledger_mapChans {f : Channel → Channel}
    (h : ∀ ch : Channel, (f ch).tx.messages.length = ch.tx.messages.length := by exact fun _ => rfl) :
    (s.mapChans f).ledger = s.ledger := by
  have hcq : (s.mapChans f).cq = s.cq := rfl
  simp only [State.ledger, State.listed_eq_sum, State.chan_mapChans, h, hcq]

/-! ### The control queue (04 R60, R61) -/

@[simp] theorem State.queueRequest_ledger (op : Opcode) : (s.queueRequest c op).ledger = s.ledger := rfl

@[simp] theorem State.queueResponse_ledger (op : Opcode) (station channel : Address) (matched : Bool) :
    (s.queueResponse c op station channel matched).ledger = s.ledger := by
  unfold State.queueResponse
  split <;> rfl

@[simp] theorem State.replyPeer_ledger (op : Opcode) : (s.replyPeer c op).ledger = s.ledger :=
  s.queueResponse_ledger c op _ _ _

end

/-! ### Messages listed on a channel -/

section
variable (ch : Channel)

/-- What leaves the sending side leaves the messages listed. -/
theorem Channel.messages_of_sender {a b : Channel} (h : b.sender = a.sender) : b.tx.messages = a.tx.messages :=
  congrArg (fun view => view.1.messages) h

@[simp] theorem Channel.moveTo_messages (st : LinkState) : (ch.moveTo st).tx.messages = ch.tx.messages :=
  Channel.messages_of_sender (ch.moveTo_sender st)

@[simp] theorem Channel.moveToWith_messages (st : LinkState) (cause : Cause) :
    (ch.moveToWith st cause).tx.messages = ch.tx.messages := ch.moveTo_messages st

@[simp] theorem Channel.dropComposing_messages : ch.dropComposing.tx.messages = ch.tx.messages := rfl

@[simp] theorem Channel.afterEntry_messages : ch.afterEntry.tx.messages = ch.tx.messages :=
  congrArg Prod.fst ch.afterEntry_listing

@[simp] theorem Channel.flush_messages : ch.flush.tx.messages = ch.tx.messages := Channel.moveTo_messages _ _

@[simp] theorem Channel.releaseHead_listed (r : RxRecord) (rest : List RxRecord) :
    (ch.releaseHead r rest).tx.messages = ch.tx.messages := Channel.messages_of_sender (Channel.grant_sender _)

@[simp] theorem Channel.appendWord_messages : ch.appendWord.tx.messages = ch.tx.messages := by
  unfold Channel.appendWord
  split <;> rfl

@[simp] theorem Channel.reportStreamWord_messages : ch.reportStreamWord.tx.messages = ch.tx.messages := by
  unfold Channel.reportStreamWord
  split <;> rfl

@[simp] theorem TxSide.endOpenMessage_messages (t : TxSide) : t.endOpenMessage.messages = t.messages :=
  congrArg Prod.fst t.endOpenMessage_listing

@[simp] theorem TxSide.abandonOpenMessage_messages (t : TxSide) : t.abandonOpenMessage.messages = t.messages :=
  congrArg Prod.fst t.abandonOpenMessage_listing

/-- A highway loss sends a started head from its First word again, and takes no message from a list (07 R117). -/
@[simp] theorem Channel.loseHighway_length : ch.loseHighway.tx.messages.length = ch.tx.messages.length := by
  obtain ⟨-, -, -, -, -, -, -, -, -, -, hcredit, hstream, hidle⟩ := ch.loseHighway_lossOn
  cases hmode : ch.config.mode with
  | credit =>
    obtain ⟨ms, htx, hnone, hhead⟩ := hcredit hmode
    rw [htx]
    cases hlisted : ch.tx.messages with
    | nil => rw [hnone hlisted]
    | cons m rest => rw [hhead m rest hlisted]; rfl
  | stream =>
    cases hsending : ch.streamSending with
    | true => rw [hstream hmode hsending]
    | false => rw [hidle hmode hsending]

/-! ### Flushes (05 R71) -/

/-- A flush makes an entry for each message that it takes from the list. -/
theorem Channel.emptyTx_length (c : Chan) (status : CqStatus) (frame : Word) :
    ch.emptyTx.tx.messages.length + (ch.flushEntries c status frame).length = ch.tx.messages.length := by
  unfold Channel.flushEntries
  cases hmode : ch.config.mode with
  | credit => simp [ch.emptyTx_tx_credit hmode]
  | stream => simp [ch.emptyTx_tx_stream hmode]

theorem Channel.afterClearDown_messages (cause : Cause) :
    (ch.afterClearDown cause).tx.messages = ch.emptyTx.tx.messages :=
  (Channel.moveToWith_messages _ _ _).trans (congrArg TxSide.messages ch.emptyTx.clearDown_tx)

theorem Channel.afterGivingUp_messages (st : LinkState) (cause : Cause) :
    (ch.afterGivingUp st cause).tx.messages = ch.emptyTx.tx.messages := Channel.moveToWith_messages _ _ _

theorem Channel.afterRestart_messages : ch.afterRestart.tx.messages = ch.emptyTx.tx.messages := by
  have hgrant := Channel.messages_of_sender (Channel.grant_sender ch.emptyTx.rxAbort.zeroCredits.clearMarks)
  exact hgrant.trans (congrArg TxSide.messages (Channel.Receives.rxAbort ch.emptyTx).only.tx)

end

/-! ### Link operations (05 section 5.2 to 5.6) -/

section
variable (s : State) (c : Chan)

/-- A transition that flushes keeps the ledger, whatever it does beside. -/
theorem State.ledger_flush {t : State} (status : CqStatus) {ch : Channel}
    (h : ch.tx.messages = (s.chan c).emptyTx.tx.messages)
    (cq : t.cq = (s.addCompletions ((s.chan c).flushEntries c status s.hwi.frame)).cq := by rfl)
    (chans : t.chans = s.chans.set c ch := by rfl) : t.ledger = s.ledger := by
  have hsame := s.ledger_complete c ((s.chan c).flushEntries c status s.hwi.frame) (ch := ch)
    (by rw [h, Channel.emptyTx_length])
  rw [← hsame]
  exact State.ledger_congr cq chans

@[simp] theorem State.closeConnected_ledger (cause : Cause) : (s.closeConnected c cause).ledger = s.ledger := by
  rw [State.closeConnected_eq]
  exact s.ledger_flush c _ (Channel.afterClearDown_messages _ cause)

@[simp] theorem State.closeUnconnected_ledger (cause : Cause) : (s.closeUnconnected c cause).ledger = s.ledger := by
  rw [State.closeUnconnected_eq]
  exact s.ledger_flush c _ (Channel.afterGivingUp_messages _ .closed cause)

@[simp] theorem State.closeUnopened_ledger : (s.closeUnopened c).ledger = s.ledger := s.closeUnconnected_ledger c _

@[simp] theorem State.enterFault_ledger (cause : Cause) : (s.enterFault c cause).ledger = s.ledger := by
  rw [State.enterFault_eq]
  exact s.ledger_flush c _ (Channel.afterGivingUp_messages _ .fault cause)

@[simp] theorem State.peerRestart_ledger : (s.peerRestart c).ledger = s.ledger := by
  rw [State.peerRestart_eq_modChan]
  exact s.ledger_flush c _ (Channel.afterRestart_messages _)

@[simp] theorem State.enterOpen_ledger : (s.enterOpen c).ledger = s.ledger := by
  rw [State.enterOpen_eq]
  exact State.ledger_modChan _ c (congrArg List.length (Channel.afterEntry_messages _))

@[simp] theorem State.startOpening_ledger : (s.startOpening c).ledger = s.ledger :=
  State.ledger_modChan _ c (congrArg List.length (Channel.moveTo_messages _ _))

@[simp] theorem State.completeDrain_ledger : (s.completeDrain c).ledger = s.ledger := by
  unfold State.completeDrain
  dsimp only
  split
  · exact State.ledger_modChan _ c (congrArg List.length (Channel.moveTo_messages _ _))
  · simp
  · simp
  · rfl

@[simp] theorem State.takeDrain_ledger : (s.takeDrain c).ledger = s.ledger := by
  unfold State.takeDrain
  split <;> simp

@[simp] theorem State.takeAnswerExpiry_ledger : (s.takeAnswerExpiry c).ledger = s.ledger := by
  unfold State.takeAnswerExpiry
  dsimp only
  split_ifs
  · exact State.ledger_modChan _ c
  · simp
  · simp
  · exact s.ledger_modChan c
  · rfl

@[simp] theorem State.takeProbeExpiry_ledger : (s.takeProbeExpiry c).ledger = s.ledger := by
  unfold State.takeProbeExpiry
  split
  · exact State.ledger_modChan _ c
  · rfl

@[simp] theorem State.takeRefresh_ledger : s.takeRefresh.ledger = s.ledger := by
  unfold State.takeRefresh
  split
  · refine State.ledger_mapChans _ fun ch => ?_
    split <;> rfl
  · rfl

@[simp] theorem State.mapTest_ledger : s.mapTest.ledger = s.ledger := by
  rw [State.mapTest_frame]
  rfl

@[simp] theorem State.takeDue_ledger : s.takeDue.ledger = s.ledger := by
  unfold State.takeDue
  dsimp only
  rw [foldl_keeps State.takeDrain State.ledger State.takeDrain_ledger, State.takeRefresh_ledger,
    foldl_keeps State.takeProbeExpiry State.ledger State.takeProbeExpiry_ledger,
    foldl_keeps State.takeAnswerExpiry State.ledger State.takeAnswerExpiry_ledger, State.mapTest_ledger]

/-! ### Channel commands (05 R77, R78) -/

@[simp] theorem State.closeCredit_ledger : (s.closeCredit c).ledger = s.ledger := by
  have hdrained : (s.modChan c fun ch => ch.dropComposing.moveTo .drain).ledger = s.ledger :=
    s.ledger_modChan c (by simp)
  unfold State.closeCredit
  dsimp only
  split <;> simp [hdrained]

@[simp] theorem State.closeStream_ledger : (s.closeStream c).ledger = s.ledger := by
  have hdrained : (s.modChan c fun ch =>
      Channel.moveTo (if ch.tx.openMessage then { ch with tx := ch.tx.endOpenMessage } else ch) .drain).ledger =
        s.ledger := by
    refine s.ledger_modChan c ?_
    rw [Channel.moveTo_messages]
    split <;> simp
  unfold State.closeStream
  dsimp only
  split <;> simp [hdrained]

@[simp] theorem State.resetConnected_ledger : (s.resetConnected c).ledger = s.ledger := by
  unfold State.resetConnected
  split <;> simp

/-! ### Received control words (04 R55 to R58, 05 section 5.4) -/

@[simp] theorem State.whenConnected_ledger {f : Channel → Channel}
    (h : ∀ ch : Channel, (f ch).tx = ch.tx) : (s.whenConnected c f).ledger = s.ledger := by
  unfold State.whenConnected
  split
  · exact s.ledger_modChan c (by rw [h])
  · rfl

theorem State.matchedWord_ledger (op : Opcode) (v : BitVec 5) : (s.matchedWord c op v).ledger = s.ledger := by
  cases op
  case open_ => unfold State.matchedWord State.matchedOpen; dsimp only; split <;> simp
  case openAck => unfold State.matchedWord State.matchedOpenAck; dsimp only; split <;> simp
  case close =>
    unfold State.matchedWord State.matchedClose
    dsimp only
    split
    · split
      · simp
      · exact s.ledger_modChan c (by simp)
    · exact s.ledger_modChan c (by simp)
    all_goals simp
  case closeAck => unfold State.matchedWord State.matchedCloseAck; dsimp only; split <;> simp
  case reset => unfold State.matchedWord State.matchedReset; dsimp only; split <;> simp
  case probe => exact s.whenConnected_ledger c fun _ => rfl
  case wordLevel => exact s.whenConnected_ledger c fun ch => ch.hearWordLevel_tx v
  case msgLevel => exact s.whenConnected_ledger c fun ch => ch.hearMsgLevel_tx v

@[simp] theorem State.takeControl_ledger (source : Address) (w : Word) :
    (s.takeControl source w).ledger = s.ledger := by
  unfold State.takeControl State.unmatchedWord
  dsimp only
  split_ifs
  · rfl
  · rfl
  · exact s.matchedWord_ledger _ _ _
  · rw [State.queueResponse_ledger]
    rfl
  · rfl

@[simp] theorem State.receiveControl_ledger (source : Address) (w : Received) :
    (s.receiveControl source w).ledger = s.ledger := by
  unfold State.receiveControl
  split
  case h_4 => exact s.takeControl_ledger _ _
  all_goals rfl

/-! ### Slots and frames -/

@[simp] theorem State.screen_ledger (w : Received) : (s.screen w).ledger = s.ledger := by
  unfold State.screen
  split <;> rfl

@[simp] theorem State.disposeUnused_ledger (w : Received) : (s.disposeUnused w).ledger = s.ledger := by
  unfold State.disposeUnused
  split <;> rfl

@[simp] theorem State.takeData_ledger (k : Kind) (p : Word) : (s.takeData c k p).ledger = s.ledger := by
  have hset : (s.setChan c ((s.chan c).dataWord s.hwi.frame k).1).ledger = s.ledger :=
    s.ledger_setChan c (congrArg List.length (Channel.messages_of_sender (Channel.dataWord_sender _ _ _)))
  unfold State.takeData
  dsimp only
  split <;> exact hset

@[simp] theorem State.receiveData_ledger (w : Received) : (s.receiveData c w).ledger = s.ledger := by
  have hcheck := s.ledger_modChan c (f := Channel.rxCheckError)
    (congrArg List.length (Channel.messages_of_sender (Channel.rxCheckError_sender _)))
  have hdata : ∀ k p, (if (s.chan c).receiving then s.takeData c k p else s.countHw .strays).ledger = s.ledger := by
    intro k p
    split
    · exact s.takeData_ledger c k p
    · rfl
  unfold State.receiveData
  split
  case h_1 =>
    split
    · exact hcheck
    · rfl
  case h_2 | h_3 | h_4 | h_5 => rfl
  all_goals exact hdata _ _

@[simp] theorem State.endLine_ledger (clash : Bool) : (s.endLine clash).ledger = s.ledger := by
  unfold State.endLine
  dsimp only
  split <;> rfl

/-- The report of the last word of a message makes an entry of it (07 R116). -/
@[simp] theorem State.reportCredit_ledger (clash : Bool) : (s.reportCredit c clash).ledger = s.ledger := by
  by_cases hgone : (s.chan c).tx.onLine = false ∨ (s.chan c).tx.messages = []
  · rw [State.reportCredit_gone clash hgone]
    exact s.ledger_setChan c rfl
  · rw [not_or, Bool.not_eq_false] at hgone
    obtain ⟨hon, hlisted⟩ := hgone
    obtain ⟨m, rest, hcons⟩ := List.exists_cons_of_ne_nil hlisted
    have hlength : (s.chan c).tx.messages.length = rest.length + 1 := congrArg List.length hcons
    by_cases hlast : m.sent + 1 = m.length
    · rw [State.reportCredit_last clash hon hcons hlast]
      exact s.ledger_complete c _ hlength.symm
    · rw [State.reportCredit_more clash hon hcons hlast]
      exact s.ledger_setChan c hlength.symm

@[simp] theorem State.settleControl_ledger (clash : Bool) : (s.settleControl clash).ledger = s.ledger :=
  State.ledger_mapChans _

@[simp] theorem State.arbitrate_ledger : s.arbitrate.2.ledger = s.ledger := by
  unfold State.arbitrate
  split
  · rfl
  · split
    · refine State.ledger_modChan _ _ ?_
      dsimp only
      split <;> rfl
    · rfl

@[simp] theorem State.frameStart_ledger : s.frameStart.ledger = s.ledger := State.ledger_mapChans _

@[simp] theorem State.loseHighway_ledger (dest : Sync) (pulse : Option Nat) :
    (s.loseHighway dest pulse).ledger = s.ledger := State.ledger_mapChans _ Channel.loseHighway_length

@[simp] theorem State.loseLock_ledger (pulse : Option Nat) : (s.loseLock pulse).ledger = s.ledger :=
  State.loseHighway_ledger _ _ _

@[simp] theorem State.masterConflict_ledger : s.masterConflict.ledger = s.ledger := State.loseHighway_ledger _ _ _

@[simp] theorem State.checkHeader_ledger (line : SlotBits) : (s.checkHeader line).ledger = s.ledger := by
  unfold State.checkHeader
  split
  · split <;> rfl
  · rfl

@[simp] theorem State.inFollowerFrame_ledger : s.inFollowerFrame.ledger = s.ledger := by
  unfold State.inFollowerFrame
  split <;> rfl

@[simp] theorem State.inMasterFrame_ledger : s.inMasterFrame.ledger = s.ledger := by
  unfold State.inMasterFrame
  split <;> rfl

end

end Sys2Proof.Machine
end

section
/-! SUPPORT. The ledger of the reservations in every command, and that reservations stay balanced in every step (05 R71,
07 R112, R116, 09 R148, R152). -/

namespace Sys2Proof.Machine

-- One theorem after another, as in the tests: many at once ask for more threads than there are.
set_option Elab.async false

/-- Every next state that the outcome answers has the ledger of `s`. -/
def KeepsLedger (s : State) (o : Out) : Prop := Ensures o fun t => t.ledger = s.ledger

namespace KeepsLedger

variable {s t : State}

/-- A command keeps the ledger when it does from a live state; RESET# changes nothing (11 R176). -/
theorem live {k : Out} (h : KeepsLedger s k) : KeepsLedger s (whenLive s k) := Ensures.live rfl fun _ => h

theorem idle : KeepsLedger s (.next s) := Ensures.next rfl

theorem fault (f : Fault) : KeepsLedger s (.fault f) := Ensures.fault f

theorem finish (h : t.ledger = s.ledger := by simp) : KeepsLedger s (finish t) := Ensures.next h

theorem finishDevice {r : CmdResult} (h : t.ledger = s.ledger := by simp) : KeepsLedger s (finishDevice t r) :=
  Ensures.next h

theorem finishChannel {r : CmdResult} (h : t.ledger = s.ledger := by simp) : KeepsLedger s (finishChannel t r) :=
  Ensures.next h

theorem tableAccess {act : State} {tables : List Nat} (h : act.ledger = s.ledger) :
    KeepsLedger s (tableAccess s tables act) := tableAccess_ensures s rfl fun _ _ => h

end KeepsLedger

section
variable (s : State)

/-! ### Channel commands and CDATA accesses (05 R75 to R79, 07 R111 to R113, R119 to R121, 08 R139, R141) -/

theorem execChanOpen_ledger : KeepsLedger s (execChanOpen s) := by
  refine .live ?_
  dsimp only
  split
  · split_ifs <;> exact .finishChannel
  · split_ifs <;> exact .finishChannel
  · split_ifs <;> exact .finishChannel
  · exact .finishChannel

theorem execChanListen_ledger : KeepsLedger s (execChanListen s) := by
  refine .live ?_
  dsimp only
  split_ifs
  case neg => exact .finishChannel (s.ledger_modChan _ (by simp))
  all_goals exact .finishChannel

theorem execChanClose_ledger : KeepsLedger s (execChanClose s) := by
  refine .live ?_
  dsimp only
  split
  · split <;> exact .finishChannel
  all_goals exact .finishChannel

theorem execChanReset_ledger : KeepsLedger s (execChanReset s) := by
  refine .live ?_
  dsimp only
  split <;> exact .finishChannel

theorem execChanFlush_ledger : KeepsLedger s (execChanFlush s) := by
  refine .live ?_
  dsimp only
  split
  · exact .finishChannel (s.ledger_modChan _ (by simp))
  · exact .finishChannel

theorem execChanAbandon_ledger : KeepsLedger s (execChanAbandon s) := by
  refine .live ?_
  split
  · unfold State.abandonCredit
    split
    · exact .finishChannel (s.ledger_modChan _)
    · exact .finishChannel
  · unfold State.abandonStream
    dsimp only
    split_ifs
    · exact .finishChannel (s.ledger_modChan _ (by simp))
    · exact .finishChannel
    · exact .finishChannel

theorem execChanRelease_ledger : KeepsLedger s (execChanRelease s) := by
  refine .live ?_
  split
  · exact .finishChannel
  · split
    · exact .finishChannel (s.ledger_modChan _ (by simp))
    · exact .finishChannel

/-- POST of a stream channel posts to its FIFO, not to a list (07 R120). -/
theorem State.postStream_ledger (c : Chan) : KeepsLedger s (s.postStream c) := by
  unfold State.postStream
  dsimp only
  split_ifs
  · exact .finishChannel (s.ledger_modChan c (by simp))
  · exact .finishChannel
  · exact .finishChannel

theorem execCdataWrite_ledger (w : Word) : KeepsLedger s (execCdataWrite w s) := by
  refine .live ?_
  dsimp only
  split_ifs
  · exact .finish (State.ledger_modChan { s with memory := _ } _ (by simp))
  · exact .fault _
  · exact .finish (s.ledger_modChan _)

theorem execCdataRead_ledger : KeepsLedger s (execCdataRead s) := by
  have hnothing : KeepsLedger s (finish (s.readNothing s.host.selected)) := .finish ((s.returns 0).ledger_modChan _)
  refine .live ?_
  dsimp only
  split
  · exact hnothing
  · split_ifs
    · exact .finish (State.ledger_modChan _ _)
    · exact .fault _
    · exact hnothing

/-! ### Device commands and register writes -/

theorem execStart_ledger : KeepsLedger s (execStart s) := by
  refine .live ?_
  split
  · refine .finishDevice ?_
    unfold State.startHighway
    dsimp only
    split <;> rfl
  all_goals exact .finishDevice

theorem execStop_ledger : KeepsLedger s (execStop s) := by
  refine .live ?_
  split
  · exact .finishDevice
  · exact .finishDevice rfl
  all_goals exact .finishDevice

theorem execSwitch_ledger : KeepsLedger s (execSwitch s) := by
  refine .live ?_
  split_ifs <;> exact .finishDevice rfl

theorem execCancel_ledger : KeepsLedger s (execCancel s) := by
  refine .live ?_
  split <;> exact .finishDevice rfl

theorem execUnknownCommandCode_ledger (port : CmdPort) (w : Word) :
    KeepsLedger s (execUnknownCommandCode port w s) := by
  refine .live ?_
  split
  · exact .idle
  · cases port
    · exact .finishDevice
    · exact .finishChannel

theorem execHcfgWrite_ledger (w : Word) : KeepsLedger s (execHcfgWrite w s) := by
  refine .live ?_
  split
  · exact .finish rfl
  · exact .finishDevice

theorem execHdivWrite_ledger (w : Word) : KeepsLedger s (execHdivWrite w s) := by
  refine .live ?_
  split
  · exact .finish rfl
  · exact .finishDevice

theorem execTimingWrite_ledger (w : Word) : KeepsLedger s (execTimingWrite w s) := by
  refine .live ?_
  split
  · exact .finishDevice
  · exact .finish rfl

theorem execTiming2Write_ledger (w : Word) : KeepsLedger s (execTiming2Write w s) := by
  refine .live ?_
  split
  · exact .finishDevice
  · exact .finish (State.ledger_mapChans _)

theorem execCqthrWrite_ledger (w : Word) : KeepsLedger s (execCqthrWrite w s) := by
  refine .live ?_
  dsimp only
  split
  · exact .finish rfl
  · exact .finishDevice

theorem execTselWrite_ledger (w : Word) : KeepsLedger s (execTselWrite w s) := by
  refine .live ?_
  split
  · exact .finish rfl
  · exact .finishDevice

theorem execRegisterWrite_ledger (r : PlainReg) (w : Word) : KeepsLedger s (execRegisterWrite r w s) := by
  refine .live ?_
  cases r
  case ctag => exact .finish (s.ledger_modChan _)
  all_goals exact .finish rfl

/-! ### Table accesses -/

theorem execPendingBankWrite_ledger (w : Word) : KeepsLedger s (execPendingBankWrite w s) := by
  refine .tableAccess ?_
  unfold State.writePending
  split
  · rfl
  · split <;> rfl

theorem execRegionTableWrite_ledger (w : Word) : KeepsLedger s (execRegionTableWrite w s) := by
  refine .tableAccess ?_
  unfold State.writeRegion
  dsimp only
  split
  · rfl
  · split
    · refine s.ledger_modChan _ ?_
      split <;> rfl
    · rfl

theorem execConfigWordWrite_ledger (w : Word) : KeepsLedger s (execConfigWordWrite w s) := by
  refine .tableAccess ?_
  unfold State.writeConfig
  dsimp only
  split
  · rfl
  · split
    · rfl
    · exact s.ledger_modChan _

theorem execChannelCounterRead_ledger : KeepsLedger s (execChannelCounterRead s) :=
  .tableAccess (s.returnTable.ledger_modChan _)

/-! ### Synchronisation and frames -/

theorem execAcquirePulse_ledger (clock : Nat) : KeepsLedger s (execAcquirePulse clock s) := by
  refine .live ?_
  split_ifs
  · exact .finish rfl
  · exact .finish rfl
  · exact .idle
  · exact .idle

theorem execCandidateHeader_ledger (line : SlotBits) : KeepsLedger s (execCandidateHeader line s) := by
  have hdue := s.takeDue_ledger
  refine .live ?_
  dsimp only
  generalize s.takeDue = t at hdue ⊢
  split
  · split
    · exact .finish ((State.frameStart_ledger _).trans hdue)
    · exact .finish hdue
  · exact .idle

theorem execSyncMiss_ledger : KeepsLedger s (execSyncMiss s) := by
  have hdue := s.takeDue_ledger
  refine .live ?_
  dsimp only
  generalize s.takeDue = t at hdue ⊢
  split
  · exact .finish hdue
  · exact .idle

theorem execHoldoverMiss_ledger : KeepsLedger s (execHoldoverMiss s) := by
  refine .live ?_
  split
  · exact .finish
  · exact .idle

theorem execMisplacedPulse_ledger (bit : Nat) : KeepsLedger s (execMisplacedPulse bit s) := by
  have hdue := s.takeDue_ledger
  refine .live ?_
  dsimp only
  generalize s.takeDue = t at hdue ⊢
  split_ifs
  · exact .finish ((State.loseLock_ledger _ _).trans hdue)
  · exact .finish hdue
  · exact .idle
  · exact .idle

theorem execPulseAtExpectedBit_ledger : KeepsLedger s (execPulseAtExpectedBit s) := by
  have hdue := s.takeDue_ledger
  refine .live ?_
  dsimp only
  generalize s.takeDue = t at hdue ⊢
  split_ifs
  · exact .finish hdue
  · exact .finish hdue
  · exact .idle
  · exact .idle

theorem execFollowerHeaderSlot_ledger (line : SlotBits) : KeepsLedger s (execFollowerHeaderSlot line s) := by
  refine .live ?_
  split
  · exact .finish
  · exact .idle

theorem execMasterHeaderSlot_ledger (line : SlotBits) : KeepsLedger s (execMasterHeaderSlot line s) := by
  refine .live ?_
  dsimp only
  split_ifs
  · exact .finish
  · exact .finish
  · exact .idle

/-! ### Slots -/

/-- An offer puts a word on the line and takes no message from a list (07 R114). -/
theorem State.driveAnswer_ledger (n : Slot) (c : Chan) {a : Answer} (h : (s.chan c).offer c = some a) :
    KeepsLedger s (s.driveAnswer n c a) := by
  have hanswer : (s.setChan c a.after).ledger = s.ledger :=
    s.ledger_setChan c (congrArg (fun listing => listing.1.length) (Channel.offer_listing h))
  unfold State.driveAnswer
  split
  · exact .finish hanswer
  · split
    · exact .finish hanswer
    · exact .fault _

theorem execTxdataOffer_ledger (n : Slot) : KeepsLedger s (execTxdataOffer n s) := by
  have hdue := s.takeDue_ledger
  refine .live ?_
  dsimp only
  generalize s.takeDue = t at hdue ⊢
  split
  · split
    · rename_i a hoffer
      exact (t.driveAnswer_ledger n _ hoffer).mono fun _ h => h.trans hdue
    · exact .finish hdue
  · exact .idle

theorem execTxdataReport_ledger (line : SlotBits) : KeepsLedger s (execTxdataReport line s) := by
  have hend := s.endLine_ledger
  refine .live ?_
  split
  · exact .idle
  · dsimp only
    split
    · exact .finish
    · exact .finish ((State.ledger_modChan _ _ (by simp)).trans (hend _))
    · exact .finish ((State.ledger_modChan _ _).trans (hend _))
    · exact .finish
    · exact .idle

theorem execTxcontrolOffer_ledger (n : Slot) : KeepsLedger s (execTxcontrolOffer n s) := by
  have hdue := s.takeDue_ledger
  refine .live ?_
  dsimp only
  generalize s.takeDue = t at hdue ⊢
  split
  · have hchosen := t.arbitrate_ledger.trans hdue
    split
    · rename_i payload u hu
      rw [hu] at hchosen
      exact .finish hchosen
    · rename_i u hu
      rw [hu] at hchosen
      exact .finish hchosen
  · exact .idle

theorem execTxcontrolReport_ledger (line : SlotBits) : KeepsLedger s (execTxcontrolReport line s) := by
  refine .live ?_
  split
  · exact .idle
  · split
    · exact .finish
    all_goals exact .idle

/-- A slot begins after the steps that are due. -/
@[simp] theorem State.takeDue_enterSlot_ledger (n : Slot) : (s.takeDue.enterSlot n).ledger = s.ledger := by
  have hdue := s.takeDue_ledger
  generalize s.takeDue = t at hdue ⊢
  exact hdue

theorem execRxdataWord_ledger (n : Slot) (line : SlotBits) : KeepsLedger s (execRxdataWord n line s) := by
  refine .live ?_
  dsimp only
  split
  · split
    · exact .fault _
    · exact .finish
  · exact .idle

theorem execRxcontrolWord_ledger (n : Slot) (line : SlotBits) : KeepsLedger s (execRxcontrolWord n line s) := by
  refine .live ?_
  dsimp only
  split
  · exact .finish
  · exact .idle

theorem execUnusedSlotWord_ledger (n : Slot) (line : SlotBits) : KeepsLedger s (execUnusedSlotWord n line s) := by
  refine .live ?_
  dsimp only
  split
  · exact .finish
  · exact .idle

end

/-! ### Every command -/

/-- The rows whose commands make or end a reservation. -/
def reserves : Instr → Bool
  | .chanPost | .popcq | .softreset | .resetPin _ => true
  | _ => false

/-- Every other command keeps the ledger. -/
theorem exec_ledger {i : Instr} (s : State) (h : reserves i = false) : KeepsLedger s (exec i s) := by
  cases i
  case start => exact execStart_ledger s
  case stop => exact execStop_ledger s
  case switch => exact execSwitch_ledger s
  case cancel => exact execCancel_ledger s
  case unknownCommandCode port w => exact execUnknownCommandCode_ledger s port w
  case chanOpen => exact execChanOpen_ledger s
  case chanListen => exact execChanListen_ledger s
  case chanClose => exact execChanClose_ledger s
  case chanReset => exact execChanReset_ledger s
  case chanFlush => exact execChanFlush_ledger s
  case chanAbandon => exact execChanAbandon_ledger s
  case chanRelease => exact execChanRelease_ledger s
  case cdataWrite w => exact execCdataWrite_ledger s w
  case cdataRead => exact execCdataRead_ledger s
  case hcfgWrite w => exact execHcfgWrite_ledger s w
  case hdivWrite w => exact execHdivWrite_ledger s w
  case devpendWrite w => exact .live (.finish rfl)
  case devenWrite w => exact .live (.finish rfl)
  case ceventWrite w => exact .live (.finish (s.ledger_modChan _))
  case timingWrite w => exact execTimingWrite_ledger s w
  case timing2Write w => exact execTiming2Write_ledger s w
  case cqthrWrite w => exact execCqthrWrite_ledger s w
  case tselWrite w => exact execTselWrite_ledger s w
  case pendingBankWrite w => exact execPendingBankWrite_ledger s w
  case regionTableWrite w => exact execRegionTableWrite_ledger s w
  case configWordWrite w => exact execConfigWordWrite_ledger s w
  case channelCounterRead => exact execChannelCounterRead_ledger s
  case highwayCounterRead => exact .tableAccess rfl
  case tableRead => exact .tableAccess rfl
  case tableWriteIgnored w => exact .tableAccess rfl
  case registerWrite r w => exact execRegisterWrite_ledger s r w
  case acquirePulse clock => exact execAcquirePulse_ledger s clock
  case candidateHeader line => exact execCandidateHeader_ledger s line
  case syncMiss => exact execSyncMiss_ledger s
  case holdoverMiss => exact execHoldoverMiss_ledger s
  case misplacedPulse bit => exact execMisplacedPulse_ledger s bit
  case followerHeaderSlot line => exact execFollowerHeaderSlot_ledger s line
  case masterHeaderSlot line => exact execMasterHeaderSlot_ledger s line
  case mapSwitch => exact .live .finish
  case answerTimerExpiry c => exact .live .finish
  case probeTimerExpiry c => exact .live .finish
  case refreshTimerExpiry => exact .live .finish
  case txdataOffer n => exact execTxdataOffer_ledger s n
  case txdataReport line => exact execTxdataReport_ledger s line
  case drainCompletion c => exact .live .finish
  case txcontrolOffer n => exact execTxcontrolOffer_ledger s n
  case txcontrolReport line => exact execTxcontrolReport_ledger s line
  case rxdataWord n line => exact execRxdataWord_ledger s n line
  case rxcontrolWord n line => exact execRxcontrolWord_ledger s n line
  case unusedSlotWord n line => exact execUnusedSlotWord_ledger s n line
  case pulseAtExpectedBit => exact execPulseAtExpectedBit_ledger s
  all_goals cases h

/-! ### The rows that make or end a reservation -/

/-- No entry, no message and no reservation balance. -/
theorem ReservationsBalance.of_none {t : State} (entries : t.cq.entries = []) (reservations : t.cq.reservations = 0)
    (messages : ∀ c : Chan, (t.chan c).tx.messages = []) : ReservationsBalance t := by
  have hlisted : t.listed = 0 := by simp [State.listed_eq_sum, messages]
  rw [ReservationsBalance, entries, reservations, hlisted]
  exact ⟨rfl, Nat.zero_le _⟩

section
variable {s : State} (hs : ReservationsBalance s)
include hs

/-- What keeps the ledger keeps the balance. -/
theorem KeepsLedger.balance {o : Out} (h : KeepsLedger s o) : Ensures o ReservationsBalance :=
  h.mono fun t ht => by rwa [reservationsBalance_iff, ht]

/-- A posted message takes a reservation, of which there was one left (07 R112). -/
theorem ReservationsBalance.post {t : State} (entries : t.cq.entries = s.cq.entries)
    (reservations : t.cq.reservations = s.cq.reservations + 1) (listed : t.listed = s.listed + 1)
    (room : s.cq.reservations < 32) : ReservationsBalance t := by
  obtain ⟨hbalance, -⟩ := hs
  rw [ReservationsBalance, entries, reservations, listed]
  omega

theorem execChanPost_balance : Ensures (execChanPost s) ReservationsBalance := by
  have hlisted := s.listed_modChan_succ s.host.selected (f := fun ch => { ch with tx := ch.tx.postComposing })
    List.length_append
  refine .live hs fun _ => ?_
  split
  · unfold State.postCredit
    dsimp only
    split_ifs with _ _ _ _ hfull
    case neg => exact .next (.post hs rfl rfl ((State.listed_congr rfl).trans hlisted) (Nat.lt_of_not_le hfull))
    all_goals exact .next hs
  · exact (s.postStream_ledger _).balance hs

/-- The entry that is taken frees its reservation (09 R152). -/
theorem execPopcq_balance : Ensures (execPopcq s) ReservationsBalance := by
  refine .live hs fun _ => ?_
  split
  · exact .next hs
  · rename_i e rest hentries
    obtain ⟨hbalance, hbound⟩ := hs
    rw [hentries, List.length_cons] at hbalance
    refine .next ⟨?_, (Nat.sub_le _ 1).trans hbound⟩
    change rest.length + s.listed = s.cq.reservations - 1
    omega

theorem execSoftreset_balance : Ensures (execSoftreset s) ReservationsBalance := by
  refine .live hs fun _ => .next (.of_none rfl rfl fun c => ?_)
  rw [State.chan_evaluate, State.chan_setDeviceResult, State.softReset, State.chan_mapChans]
  rfl

theorem execResetPin_balance (asserted : Bool) : Ensures (execResetPin asserted s) ReservationsBalance := by
  cases asserted
  · exact .next hs
  · exact .next (.of_none rfl rfl fun c => congrArg (fun ch => ch.tx.messages) (State.reset_chan c))

theorem exec_balance (i : Instr) : Ensures (exec i s) ReservationsBalance := by
  cases hrow : reserves i with
  | false => exact (exec_ledger s hrow).balance hs
  | true =>
    cases i
    case chanPost => exact execChanPost_balance hs
    case popcq => exact execPopcq_balance hs
    case softreset => exact execSoftreset_balance hs
    case resetPin asserted => exact execResetPin_balance hs asserted
    all_goals cases hrow

end

/-- Settles O8: POST, POPCQ and the resets move both sides of the balance alike, and every other command moves neither. -/
theorem reservationsStayBalanced : Obligations.ReservationsStayBalanced := by
  unfold Obligations.ReservationsStayBalanced
  intro s t hs hstep
  unfold step at hstep
  split at hstep
  · cases hstep
    exact hs
  · rename_i i rest _
    have hrest : ReservationsBalance { s with pending := rest } := hs
    exact exec_balance hrest i t hstep

end Sys2Proof.Machine
end

section
/-! SUPPORT. The steps that fall due (log entry 8): each row takes its steps, nothing is due when all are taken, and a
highway event that begins or loses a frame or begins a slot acts on the state in which they are. -/

namespace Sys2Proof.Machine

-- One theorem after another, as in the tests: many at once ask for more threads than there are.
set_option Elab.async false

/-! ### The rows one after another -/

/-- The Event Unit replaced. -/
def State.withEvu (s : State) (e : EventUnit) : State := { s with evu := e }

theorem State.evaluate_eq_withEvu (s : State) : s.evaluate = s.withEvu s.evaluate.evu := rfl

/-- The evaluation overwrites the level values found (10 R158). -/
theorem State.evaluate_withEvu {s t : State} (h : t.evu = s.evu) :
    (t.withEvu s.evaluate.evu).evaluate = t.evaluate := by
  cases t
  cases h
  rfl

/-- A step that neither reads nor changes the Event Unit. -/
structure BesideEvents (f : State → State) : Prop where
  withEvu : ∀ (s : State) (e : EventUnit), f (s.withEvu e) = (f s).withEvu e
  evu : ∀ s : State, (f s).evu = s.evu

/-- Such a step leads to the same state from the level values evaluated as from those before. -/
theorem BesideEvents.evaluate {f : State → State} (h : BesideEvents f) (s : State) :
    (f s.evaluate).evaluate = (f s).evaluate := by
  rw [s.evaluate_eq_withEvu, h.withEvu]
  exact State.evaluate_withEvu (h.evu s)

section
variable (c : Chan)

theorem State.closeConnected_withEvu (s : State) (e : EventUnit) (cause : Cause) :
    (s.withEvu e).closeConnected c cause = (s.closeConnected c cause).withEvu e := by
  rw [State.closeConnected_eq, State.closeConnected_eq]
  rfl

theorem State.enterFault_withEvu (s : State) (e : EventUnit) (cause : Cause) :
    (s.withEvu e).enterFault c cause = (s.enterFault c cause).withEvu e := by
  rw [State.enterFault_eq, State.enterFault_eq]
  rfl

theorem State.completeDrain_withEvu (s : State) (e : EventUnit) :
    (s.withEvu e).completeDrain c = (s.completeDrain c).withEvu e := by
  have hchan : (s.withEvu e).chan c = s.chan c := rfl
  unfold State.completeDrain
  rw [hchan]
  dsimp only
  split
  · rfl
  · exact State.closeConnected_withEvu c (s.replyPeer c .closeAck) e .closed
  · exact s.closeConnected_withEvu c e .closed
  · rfl

theorem takeAnswerExpiry_besideEvents : BesideEvents fun s => s.takeAnswerExpiry c where
  withEvu s e := by
    have hchan : (s.withEvu e).chan c = s.chan c := rfl
    unfold State.takeAnswerExpiry
    rw [hchan]
    dsimp only
    split_ifs
    · rfl
    · exact s.enterFault_withEvu c e _
    · exact s.closeConnected_withEvu c e _
    · rfl
    · rfl
  evu s := (TouchesOnly.takeAnswerExpiry c s).evu

theorem takeProbeExpiry_besideEvents : BesideEvents fun s => s.takeProbeExpiry c where
  withEvu s e := by
    have hchan : (s.withEvu e).chan c = s.chan c := rfl
    have hlnk : (s.withEvu e).lnk = s.lnk := rfl
    unfold State.takeProbeExpiry
    rw [hchan, hlnk]
    split <;> rfl
  evu s := (TouchesOnly.takeProbeExpiry c s).evu

theorem takeDrain_besideEvents : BesideEvents fun s => s.takeDrain c where
  withEvu s e := by
    have hdue : (s.withEvu e).drainDue c = s.drainDue c := rfl
    unfold State.takeDrain
    rw [hdue]
    split
    · exact s.completeDrain_withEvu c e
    · rfl
  evu s := (TouchesOnly.takeDrain c s).evu

end

theorem takeRefresh_besideEvents : BesideEvents State.takeRefresh where
  withEvu s e := by
    have hlnk : (s.withEvu e).lnk = s.lnk := rfl
    unfold State.takeRefresh
    rw [hlnk]
    split <;> rfl
  evu s := by rw [State.takeRefresh_frame]

/-- Commands one after another, where the first of them answer a next state. -/
theorem execAll_append {is : List Instr} (js : List Instr) {s t : State} (h : execAll is s = .next t) :
    execAll (is ++ js) s = execAll js t := by
  induction is generalizing s with
  | nil =>
    cases h
    rfl
  | cons i is ih =>
    rw [execAll] at h
    rw [List.cons_append, execAll]
    split at h
    · exact ih h
    · cases h
    · cases h

/-- The commands take the step `f` on a live part, from the level values that the command before them left. -/
structure TakenBy (f : State → State) (is : List Instr) : Prop where
  run : ∀ s : State, s.resetPin = false → execAll is s.evaluate = .next (f s).evaluate
  pin : ∀ s : State, (f s).resetPin = s.resetPin

namespace TakenBy

/-- One step after another. -/
theorem append {f g : State → State} {is js : List Instr} (h : TakenBy f is) (k : TakenBy g js) :
    TakenBy (fun s => g (f s)) (is ++ js) where
  run s hlive := (execAll_append js (h.run s hlive)).trans (k.run (f s) ((h.pin s).trans hlive))
  pin s := (k.pin (f s)).trans (h.pin s)

/-- The row of a step. -/
theorem row {f : State → State} {i : Instr}
    (hrow : ∀ s : State, s.resetPin = false → exec i s = .next (f s).evaluate) (hbeside : BesideEvents f)
    (hpin : ∀ s : State, (f s).resetPin = s.resetPin) : TakenBy f [i] where
  run s hlive := by rw [execAll, hrow s.evaluate hlive, ← hbeside.evaluate s]; rfl
  pin := hpin

/-- The rows of one kind of step, channel by channel. -/
theorem rows {f : State → Chan → State} {i : Chan → Instr} (h : ∀ c : Chan, TakenBy (fun s => f s c) [i c])
    (cs : List Chan) : TakenBy (fun s => cs.foldl f s) (cs.map i) := by
  induction cs with
  | nil => exact ⟨fun _ _ => rfl, fun _ => rfl⟩
  | cons c cs ih => exact (h c).append ih

theorem answerTimerExpiry (c : Chan) : TakenBy (fun s => s.takeAnswerExpiry c) [.answerTimerExpiry c] :=
  row (fun _ hlive => exec_answerTimerExpiry hlive c) (takeAnswerExpiry_besideEvents c)
    fun s => (TouchesOnly.takeAnswerExpiry c s).resetPin

theorem probeTimerExpiry (c : Chan) : TakenBy (fun s => s.takeProbeExpiry c) [.probeTimerExpiry c] :=
  row (fun _ hlive => exec_probeTimerExpiry hlive c) (takeProbeExpiry_besideEvents c)
    fun s => (TouchesOnly.takeProbeExpiry c s).resetPin

theorem refreshTimerExpiry : TakenBy State.takeRefresh [.refreshTimerExpiry] :=
  row (fun _ hlive => exec_refreshTimerExpiry hlive) takeRefresh_besideEvents fun s => by rw [State.takeRefresh_frame]

theorem drainCompletion (c : Chan) : TakenBy (fun s => s.takeDrain c) [.drainCompletion c] :=
  row (fun _ hlive => exec_drainCompletion hlive c) (takeDrain_besideEvents c)
    fun s => (TouchesOnly.takeDrain c s).resetPin

end TakenBy

/-- To take the steps that are due is to run their rows in their order. -/
theorem execAll_dueSteps {s : State} (hlive : s.resetPin = false) :
    execAll dueSteps s = .next s.takeDue.evaluate := by
  have hmap : execAll [.mapSwitch] s = .next s.mapTest.evaluate := by
    rw [execAll, show exec .mapSwitch s = .next s.mapTest.evaluate from whenLive_live _ hlive]
    rfl
  have htested : s.mapTest.resetPin = false := by rwa [State.mapTest_frame]
  have hrest := (((TakenBy.rows .answerTimerExpiry (List.finRange 16)).append
    (.rows .probeTimerExpiry (List.finRange 16))).append .refreshTimerExpiry).append
    (.rows .drainCompletion (List.finRange 16))
  simp only [dueSteps, List.append_assoc] at hrest ⊢
  exact (execAll_append _ hmap).trans (hrest.run _ htested)

end Sys2Proof.Machine
end

section
/-! SUPPORT. Nothing is due when the steps that fall due are taken (log entry 8): each step leaves nothing of its kind due
on its channel, and the later steps make nothing due that the earlier ones took. -/

namespace Sys2Proof.Machine

-- One theorem after another, as in the tests: many at once ask for more threads than there are.
set_option Elab.async false

/-! ### Nothing of a kind due on a channel -/

/-- No answer-timer expiry is due on channel `c`, if a timer that is loaded runs (05 R94). -/
def State.AnswerTaken (s : State) (c : Chan) : Prop := 1 ≤ s.lnk.answerTimeout → (s.chan c).answerDue = false

/-- No probe-timer expiry is due on channel `c`, if a count of 0 is not due (06 R108). -/
def State.ProbeTaken (s : State) (c : Chan) : Prop :=
  1 ≤ s.lnk.probeDelay → (s.chan c).probeDue s.lnk.probeDelay = false

/-- The settings that say when a timer is due (05 R94, 06 R108). -/
def State.timings (s : State) : Nat × Nat := (s.lnk.answerTimeout, s.lnk.probeDelay)

theorem State.timings_eq_iff {s t : State} : t.timings = s.timings ↔
    t.lnk.answerTimeout = s.lnk.answerTimeout ∧ t.lnk.probeDelay = s.lnk.probeDelay := Prod.mk.injEq .. ▸ Iff.rfl

/-- No drain completion is due on channel `c`. -/
def State.DrainTaken (s : State) (c : Chan) : Prop := s.drainDue c = false

namespace TouchesOnly

variable {c d : Chan} {s t : State}

theorem timings (h : TouchesOnly c s t) : t.timings = s.timings := by
  rw [State.timings, h.lnk]
  rfl

theorem answerTimeout (h : TouchesOnly c s t) : t.lnk.answerTimeout = s.lnk.answerTimeout := congrArg Prod.fst h.timings

theorem probeDelay (h : TouchesOnly c s t) : t.lnk.probeDelay = s.lnk.probeDelay := congrArg Prod.snd h.timings

theorem refreshDue (h : TouchesOnly c s t) : t.lnk.refreshDue = s.lnk.refreshDue := by
  rw [h.lnk]
  rfl

variable (h : TouchesOnly c s t) (hd : d ≠ c)
include h hd

theorem answerTaken (hs : s.AnswerTaken d) : t.AnswerTaken d := by
  rwa [State.AnswerTaken, h.answerTimeout, h.chan d hd]

theorem probeTaken (hs : s.ProbeTaken d) : t.ProbeTaken d := by
  rwa [State.ProbeTaken, h.probeDelay, h.chan d hd]

theorem drainTaken (hs : s.DrainTaken d) : t.DrainTaken d := by
  rwa [State.DrainTaken, State.drainDue, State.endOnLine, h.chan d hd, h.hwi]

end TouchesOnly

/-! ### What a step leaves on its channel -/

section
variable (s : State) (c : Chan)

theorem State.closeConnected_timed (cause : Cause) : ((s.closeConnected c cause).chan c).timed =
    ({ (s.chan c).timed.1 with state := .closed, cause := cause, answerTimer := none }, (s.chan c).timed.2.1, false) := by
  rw [State.closeConnected_eq, State.chan_modChan_same, Channel.afterClearDown_timed]
  rfl

theorem State.enterFault_timed (cause : Cause) : ((s.enterFault c cause).chan c).timed =
    ({ (s.chan c).timed.1 with state := .fault, cause := cause, answerTimer := none }, (s.chan c).timed.2.1, false) := by
  rw [State.enterFault_eq, State.chan_modChan_same, Channel.afterGivingUp_timed]
  rfl

theorem Channel.answerDue_eq_timed (ch : Channel) : ch.answerDue = (ch.timed.1.answerTimer == some 0) := rfl

/-- An answer timer that is loaded runs, as an answer timeout is at least 1 (05 R94). -/
theorem loaded_ne_due {n : Nat} (h : 1 ≤ n) : (some (4 * n) == some 0) = false := by
  simp
  omega

theorem State.takeAnswerExpiry_answerTaken : (s.takeAnswerExpiry c).AnswerTaken c := by
  intro htimeout
  rw [(TouchesOnly.takeAnswerExpiry c s).answerTimeout] at htimeout
  unfold State.takeAnswerExpiry
  dsimp only
  split_ifs with hdue
  · rw [State.chan_modChan_same]
    exact loaded_ne_due htimeout
  · rw [Channel.answerDue_eq_timed, State.enterFault_timed]
    rfl
  · rw [Channel.answerDue_eq_timed, State.closeConnected_timed]
    rfl
  · rw [State.chan_modChan_same]
    rfl
  · exact Bool.eq_false_of_not_eq_true hdue

theorem State.takeProbeExpiry_probeTaken : (s.takeProbeExpiry c).ProbeTaken c := by
  intro hdelay
  rw [(TouchesOnly.takeProbeExpiry c s).probeDelay] at hdelay ⊢
  unfold State.takeProbeExpiry
  split
  · rw [State.chan_modChan_same]
    exact decide_eq_false (Nat.not_le.mpr hdelay)
  · rename_i hdue
    exact Bool.eq_false_of_not_eq_true hdue

/-- A probe-timer expiry leaves the answer timer alone. -/
theorem State.takeProbeExpiry_answerTaken (hs : s.AnswerTaken c) : (s.takeProbeExpiry c).AnswerTaken c := by
  unfold State.takeProbeExpiry
  split
  · rw [State.AnswerTaken, State.chan_modChan_same]
    exact hs
  · exact hs

/-- A refresh leaves the link record and the probe timer alone. -/
theorem State.takeRefresh_timers : (s.takeRefresh.chan c).link = (s.chan c).link ∧
    (s.takeRefresh.chan c).probe = (s.chan c).probe := by
  unfold State.takeRefresh State.refreshMarks
  split
  · rw [State.chan_mapChans]
    split <;> exact ⟨rfl, rfl⟩
  · exact ⟨rfl, rfl⟩

theorem State.takeRefresh_timings : s.takeRefresh.timings = s.timings := by
  rw [State.takeRefresh_frame]
  rfl

theorem State.takeRefresh_answerTaken (hs : s.AnswerTaken c) : s.takeRefresh.AnswerTaken c := by
  have htimeout : s.takeRefresh.lnk.answerTimeout = s.lnk.answerTimeout := congrArg Prod.fst s.takeRefresh_timings
  rwa [State.AnswerTaken, htimeout, Channel.answerDue, (s.takeRefresh_timers c).1]

theorem State.takeRefresh_probeTaken (hs : s.ProbeTaken c) : s.takeRefresh.ProbeTaken c := by
  have hdelay : s.takeRefresh.lnk.probeDelay = s.lnk.probeDelay := congrArg Prod.snd s.takeRefresh_timings
  rwa [State.ProbeTaken, hdelay, Channel.probeDue, (s.takeRefresh_timers c).2]

theorem State.takeRefresh_refreshDue : s.takeRefresh.lnk.refreshDue = false := by
  unfold State.takeRefresh
  split
  · refine Bool.eq_false_of_not_eq_true fun hdue => ?_
    obtain ⟨hinterval, hcount⟩ := (LinkControl.refreshDue_iff _).mp hdue
    have hzero : 16 * s.lnk.refreshInterval ≤ 0 := hcount
    have hpos : s.lnk.refreshInterval ≠ 0 := hinterval
    omega
  · rename_i hdue
    exact Bool.eq_false_of_not_eq_true hdue

/-- A drain completion that is due leads to CLOSEWAIT with the answer timer loaded, or to CLOSED with both timers
stopped (05 R88 to R90). -/
theorem State.takeDrain_cases : (s.drainDue c = false ∧ s.takeDrain c = s) ∨
    (s.takeDrain c).chan c = ((s.chan c).loadAnswer s.lnk).moveTo .closeWait ∨
    ((s.takeDrain c).chan c).timed =
      ({ (s.chan c).timed.1 with state := .closed, cause := .closed, answerTimer := none }, (s.chan c).timed.2.1,
        false) := by
  cases hdue : s.drainDue c with
  | false => exact .inl ⟨rfl, s.takeDrain_of_not_due c hdue⟩
  | true =>
    have htaken : s.takeDrain c = s.completeDrain c := if_pos hdue
    rw [htaken]
    cases hmode : (s.chan c).config.mode with
    | credit =>
      rcases ((s.drainDue_credit c hmode).mp hdue).1 with hst | hst
      · have hdrained : s.completeDrain c = (s.queueRequest c .close).modChan c
            (fun ch => (ch.loadAnswer s.lnk).moveTo .closeWait) := by
          simp only [State.completeDrain, hmode, hst]
        rw [hdrained, State.chan_modChan_same]
        exact .inr (.inl rfl)
      · rw [State.completeDrain_yield s c hmode hst, State.closeConnected_timed, State.chan_replyPeer]
        exact .inr (.inr rfl)
    | stream =>
      rw [State.completeDrain_stream s c hmode ((s.drainDue_stream c hmode).mp hdue).1]
      exact .inr (.inr (s.closeConnected_timed c .closed))

/-- No drain completion is due in other states than DRAIN and YIELD (05 section 5.5). -/
theorem State.drainTaken_of_state (hdrain : (s.chan c).link.state ≠ .drain)
    (hyield : (s.chan c).link.state ≠ .yield) : s.DrainTaken c := by
  refine Bool.eq_false_of_not_eq_true fun hdue => ?_
  cases hmode : (s.chan c).config.mode with
  | credit => exact ((s.drainDue_credit c hmode).mp hdue).1.elim hdrain hyield
  | stream => exact hdrain ((s.drainDue_stream c hmode).mp hdue).1

theorem State.takeDrain_drainTaken : (s.takeDrain c).DrainTaken c := by
  rcases s.takeDrain_cases c with ⟨hdue, hsame⟩ | hwaits | hclosed
  · rwa [hsame]
  · have hst : ((s.takeDrain c).chan c).link.state = .closeWait := by rw [hwaits, Channel.moveTo_state]
    exact State.drainTaken_of_state _ c (by rw [hst]; decide) (by rw [hst]; decide)
  · have hst : ((s.takeDrain c).chan c).link.state = .closed := congrArg (fun view => view.1.state) hclosed
    exact State.drainTaken_of_state _ c (by rw [hst]; decide) (by rw [hst]; decide)

theorem State.takeDrain_answerTaken (hs : s.AnswerTaken c) : (s.takeDrain c).AnswerTaken c := by
  intro htimeout
  rw [(TouchesOnly.takeDrain c s).answerTimeout] at htimeout
  rcases s.takeDrain_cases c with ⟨-, hsame⟩ | hwaits | hclosed
  · rw [hsame]
    exact hs htimeout
  · rw [hwaits, Channel.answerDue_eq_timed, Channel.moveTo_timed]
    exact loaded_ne_due htimeout
  · rw [Channel.answerDue_eq_timed, hclosed]
    rfl

theorem Channel.moveTo_probe (ch : Channel) (st : LinkState) : (ch.moveTo st).probe = ch.probe := by
  unfold Channel.moveTo
  split <;> rfl

theorem State.takeDrain_probeTaken (hs : s.ProbeTaken c) : (s.takeDrain c).ProbeTaken c := by
  intro hdelay
  rw [(TouchesOnly.takeDrain c s).probeDelay] at hdelay ⊢
  have hbefore := hs hdelay
  rcases s.takeDrain_cases c with ⟨-, hsame⟩ | hwaits | hclosed
  · rwa [hsame]
  · rw [hwaits, Channel.probeDue, Channel.moveTo_probe]
    exact hbefore
  · have hstopped : ((s.takeDrain c).chan c).probe.isSome = false := congrArg (fun view => view.2.2) hclosed
    have hnone : ((s.takeDrain c).chan c).probe = none := by simpa using hstopped
    rw [Channel.probeDue, hnone]

end

/-! ### Channel after channel -/

/-- Steps over channels leave what each of them makes on its channel and keeps on the others. -/
theorem foldl_makes {f : State → Chan → State} {P : State → Chan → Prop} (hmake : ∀ s c, P (f s c) c)
    (hkeep : ∀ s c d, d ≠ c → P s d → P (f s c) d) (s : State) : ∀ c, P ((List.finRange 16).foldl f s) c := by
  have hall : ∀ (cs : List Chan) (s : State) (c : Chan), c ∈ cs ∨ P s c → P (cs.foldl f s) c := by
    intro cs
    induction cs with
    | nil => exact fun s c h => h.resolve_left List.not_mem_nil
    | cons a cs ih =>
      intro s c h
      refine ih (f s a) c ?_
      by_cases hc : c = a
      · exact .inr (hc ▸ hmake s c)
      · exact h.imp (fun hmem => (List.mem_cons.mp hmem).resolve_left hc) (hkeep s a c hc)
  exact fun c => hall _ s c (.inl (List.mem_finRange c))

/-- Steps over channels keep what each of them keeps on its channel and on the others. -/
theorem foldl_preserves {f : State → Chan → State} {P : State → Chan → Prop} (hown : ∀ s c, P s c → P (f s c) c)
    (hkeep : ∀ s c d, d ≠ c → P s d → P (f s c) d) {s : State} (hs : ∀ c, P s c) :
    ∀ c, P ((List.finRange 16).foldl f s) c :=
  List.foldlRecOn (motive := fun s => ∀ c, P s c) (List.finRange 16) f hs fun s hs c _ d => by
    by_cases hd : d = c
    · exact hd ▸ hown s c (hs c)
    · exact hkeep s c d hd (hs d)

/-! ### Nothing is due -/

section
variable (s : State)

theorem State.takeDue_answerTaken (c : Chan) : s.takeDue.AnswerTaken c := by
  have hanswered := foldl_makes (P := State.AnswerTaken) State.takeAnswerExpiry_answerTaken
    (fun s c d hd => (TouchesOnly.takeAnswerExpiry c s).answerTaken hd) s.mapTest
  have hprobed := foldl_preserves (P := State.AnswerTaken) State.takeProbeExpiry_answerTaken
    (fun s c d hd => (TouchesOnly.takeProbeExpiry c s).answerTaken hd) hanswered
  unfold State.takeDue
  exact foldl_preserves (P := State.AnswerTaken) State.takeDrain_answerTaken
    (fun s c d hd => (TouchesOnly.takeDrain c s).answerTaken hd) (fun c => State.takeRefresh_answerTaken _ c (hprobed c)) c

theorem State.takeDue_probeTaken (c : Chan) : s.takeDue.ProbeTaken c := by
  have hprobed := foldl_makes (P := State.ProbeTaken) State.takeProbeExpiry_probeTaken
    (fun s c d hd => (TouchesOnly.takeProbeExpiry c s).probeTaken hd)
    ((List.finRange 16).foldl State.takeAnswerExpiry s.mapTest)
  unfold State.takeDue
  exact foldl_preserves (P := State.ProbeTaken) State.takeDrain_probeTaken
    (fun s c d hd => (TouchesOnly.takeDrain c s).probeTaken hd) (fun c => State.takeRefresh_probeTaken _ c (hprobed c)) c

theorem State.takeDue_drainTaken (c : Chan) : s.takeDue.DrainTaken c := by
  unfold State.takeDue
  exact foldl_makes (P := State.DrainTaken) State.takeDrain_drainTaken
    (fun s c d hd => (TouchesOnly.takeDrain c s).drainTaken hd) _ c

theorem State.takeDue_refreshDue : s.takeDue.lnk.refreshDue = false := by
  unfold State.takeDue
  dsimp only
  rw [foldl_keeps State.takeDrain (·.lnk.refreshDue) fun s c => (TouchesOnly.takeDrain c s).refreshDue,
    State.takeRefresh_refreshDue]

theorem State.takeDue_timings : s.takeDue.timings = s.timings := by
  have htest : s.mapTest.timings = s.timings := by
    rw [State.mapTest_frame]
    rfl
  unfold State.takeDue
  dsimp only
  rw [foldl_keeps State.takeDrain State.timings fun s c => (TouchesOnly.takeDrain c s).timings,
    State.takeRefresh_timings,
    foldl_keeps State.takeProbeExpiry State.timings fun s c => (TouchesOnly.takeProbeExpiry c s).timings,
    foldl_keeps State.takeAnswerExpiry State.timings fun s c => (TouchesOnly.takeAnswerExpiry c s).timings, htest]

end

/-- Nothing is due where the steps of every kind are taken. -/
theorem State.quiet_of_taken {s : State} (htimeout : 1 ≤ s.lnk.answerTimeout) (hdelay : 1 ≤ s.lnk.probeDelay)
    (hmap : s.map.dueFrame = none) (hrefresh : s.lnk.refreshDue = false) (hanswer : ∀ c, s.AnswerTaken c)
    (hprobe : ∀ c, s.ProbeTaken c) (hdrain : ∀ c, s.DrainTaken c) : s.quiet = true :=
  s.quiet_iff.mpr ⟨hmap, hrefresh, fun c => ⟨hanswer c htimeout, hprobe c hdelay, hdrain c⟩⟩

/-- When all steps that are due are taken nothing is due, if TIMING and TIMING2 hold values that they may (05 R94, 06
R108). -/
theorem State.takeDue_quiet {s : State} (htimeout : 1 ≤ s.lnk.answerTimeout) (hdelay : 1 ≤ s.lnk.probeDelay) :
    s.takeDue.quiet = true := by
  obtain ⟨hsameTimeout, hsameDelay⟩ := State.timings_eq_iff.mp s.takeDue_timings
  rw [← hsameTimeout] at htimeout
  rw [← hsameDelay] at hdelay
  exact State.quiet_of_taken htimeout hdelay s.takeDue_dueFrame s.takeDue_refreshDue s.takeDue_answerTaken
    s.takeDue_probeTaken s.takeDue_drainTaken

end Sys2Proof.Machine
end

section
/-! SUPPORT. The highway events and the steps that are due (log entry 8): an event that begins or loses a frame or begins a
slot acts on the state in which they are taken, and the other events take none. -/

namespace Sys2Proof.Machine

-- One theorem after another, as in the tests: many at once ask for more threads than there are.
set_option Elab.async false

/-! ### Events that begin or lose a frame or begin a slot -/

/-- From two states that share the highway and come to the same state by the steps that are due, the event does the
same, unless it leaves the part as it is. -/
def ActsWhenTaken (e : Instr) : Prop :=
  ∀ s u : State, u.resetPin = s.resetPin → u.hwi = s.hwi → u.takeDue = s.takeDue →
    exec e s = .next s ∨ exec e s = exec e u

/-- It does when it does on a live part. -/
theorem ActsWhenTaken.of_live {e : Instr} {k : State → Out} (hexec : ∀ s, exec e s = whenLive s (k s))
    (h : ∀ s u : State, u.hwi = s.hwi → u.takeDue = s.takeDue → k s = .next s ∨ k s = k u) : ActsWhenTaken e := by
  intro s u hpin hhwi hdue
  rw [hexec, hexec]
  unfold whenLive
  rw [hpin]
  split
  · exact .inl rfl
  · exact h s u hhwi hdue

/-- An event that is ruled out by the highway alone, and else acts on the state in which the steps are taken. -/
theorem ActsWhenTaken.of_guard {e : Instr} {p : State → Prop} [DecidablePred p] {act : State → Out}
    (hexec : ∀ s, exec e s = whenLive s (if p s then act s else .next s))
    (hguard : ∀ s u : State, u.hwi = s.hwi → (p s ↔ p u))
    (hact : ∀ s u : State, u.hwi = s.hwi → u.takeDue = s.takeDue → act s = act u) : ActsWhenTaken e := by
  refine .of_live hexec fun s u hhwi hdue => ?_
  by_cases hp : p s
  · rw [if_pos hp, if_pos ((hguard s u hhwi).mp hp)]
    exact .inr (hact s u hhwi hdue)
  · exact .inl (if_neg hp)

theorem candidateHeader_actsWhenTaken (line : SlotBits) : ActsWhenTaken (.candidateHeader line) :=
  .of_guard (fun _ => rfl) (fun s u hhwi => by rw [hhwi]) fun s u _ hdue => by rw [hdue]

theorem syncMiss_actsWhenTaken : ActsWhenTaken .syncMiss :=
  .of_guard (fun _ => rfl) (fun s u hhwi => by rw [hhwi]) fun s u _ hdue => by rw [hdue]

theorem holdoverMiss_actsWhenTaken : ActsWhenTaken .holdoverMiss :=
  .of_guard (fun _ => rfl) (fun s u hhwi => by rw [hhwi]) fun s u _ hdue => by rw [hdue]

theorem followerHeaderSlot_actsWhenTaken (line : SlotBits) : ActsWhenTaken (.followerHeaderSlot line) :=
  .of_guard (fun _ => rfl) (fun s u hhwi => by rw [hhwi]) fun s u _ hdue => by rw [hdue]

theorem masterHeaderSlot_actsWhenTaken (line : SlotBits) : ActsWhenTaken (.masterHeaderSlot line) :=
  .of_guard (fun _ => rfl) (fun s u hhwi => by rw [hhwi]) fun s u _ hdue => by rw [hdue]

/-- HSYNC found asserted acts as a pulse or as one that is held, and else does nothing. -/
theorem misplacedPulse_actsWhenTaken (bit : Nat) : ActsWhenTaken (.misplacedPulse bit) := by
  refine .of_live (fun _ => rfl) fun s u hhwi hdue => ?_
  have hslots : u.slots = s.slots := congrArg (fun h : Highway => slotsOfCode h.lengthCode) hhwi
  dsimp only
  rw [hslots, hhwi, hdue]
  split_ifs
  · exact .inr rfl
  · exact .inr rfl
  · exact .inl rfl
  · exact .inl rfl

theorem pulseAtExpectedBit_actsWhenTaken : ActsWhenTaken .pulseAtExpectedBit := by
  refine .of_live (fun _ => rfl) fun s u hhwi hdue => ?_
  dsimp only
  rw [hhwi, hdue]
  split_ifs
  · exact .inr rfl
  · exact .inr rfl
  · exact .inl rfl
  · exact .inl rfl

/-- An event that begins a slot looks at the state in which the steps are taken, and does nothing where its slot cannot
begin there or is of another use. -/
theorem slotEvent_actsWhenTaken {n : Slot} {line : SlotBits} {e : Instr}
    (he : e ∈ [.txdataOffer n, .txcontrolOffer n, .rxdataWord n line, .rxcontrolWord n line,
      .unusedSlotWord n line]) : ActsWhenTaken e := by
  simp only [List.mem_cons, List.not_mem_nil, or_false] at he
  rcases he with rfl | rfl | rfl | rfl | rfl
  all_goals
    refine .of_live (fun _ => rfl) fun s u _ hdue => ?_
    rw [hdue]
    generalize s.takeDue = t
    split
    · exact .inr rfl
    · exact .inl rfl

theorem frameEvent_actsWhenTaken {n : Slot} {line : SlotBits} {bit : Nat} {e : Instr}
    (he : e ∈ frameEvents n line bit) : ActsWhenTaken e := by
  have hrows : frameEvents n line bit = [.candidateHeader line, .syncMiss, .holdoverMiss, .misplacedPulse bit,
      .pulseAtExpectedBit, .followerHeaderSlot line, .masterHeaderSlot line] ++ [.txdataOffer n, .txcontrolOffer n,
      .rxdataWord n line, .rxcontrolWord n line, .unusedSlotWord n line] := rfl
  rw [hrows, List.mem_append] at he
  rcases he with hsync | hslot
  · simp only [List.mem_cons, List.not_mem_nil, or_false] at hsync
    rcases hsync with rfl | rfl | rfl | rfl | rfl | rfl | rfl
    exacts [candidateHeader_actsWhenTaken line, syncMiss_actsWhenTaken, holdoverMiss_actsWhenTaken,
      misplacedPulse_actsWhenTaken bit, pulseAtExpectedBit_actsWhenTaken, followerHeaderSlot_actsWhenTaken line,
      masterHeaderSlot_actsWhenTaken line]
  · exact slotEvent_actsWhenTaken hslot

/-- An event that acts does what it would do on the state in which the steps that are due are taken. -/
theorem ActsWhenTaken.exec_takeDue {e : Instr} (h : ActsWhenTaken e) {s : State} (hquiet : s.takeDue.quiet = true)
    (hacts : exec e s ≠ .next s) : exec e s = exec e s.takeDue := by
  obtain ⟨hhwi, -, -, hpin, -⟩ := s.takeDue_frame
  exact (h s s.takeDue hpin hhwi (State.takeDue_of_quiet hquiet)).resolve_left hacts

/-! ### The other events -/

/-- From `s` to `t` no step that is due was taken: the map and its due test, the refresh count and every link record
stayed, and no control entry was added. -/
structure TakesNone (s t : State) : Prop where
  map : t.map = s.map
  refreshCount : t.lnk.refreshCount = s.lnk.refreshCount
  queue : t.lnk.queue.length ≤ s.lnk.queue.length
  link : ∀ c : Chan, (t.chan c).link = (s.chan c).link

namespace TakesNone

/-- What changes neither the map nor the Link Controller nor a channel. -/
theorem elsewhere {s t : State} (map : t.map = s.map := by rfl) (lnk : t.lnk = s.lnk := by rfl)
    (chans : t.chans = s.chans := by rfl) : TakesNone s t :=
  ⟨map, by rw [lnk], by rw [lnk], fun c => by rw [State.chan, State.chan, chans]⟩

theorem same (s : State) : TakesNone s s := elsewhere

theorem trans {s t u : State} (h : TakesNone s t) (k : TakesNone t u) : TakesNone s u :=
  ⟨k.map.trans h.map, k.refreshCount.trans h.refreshCount, k.queue.trans h.queue, fun c => (k.link c).trans (h.link c)⟩

theorem setChan {s t : State} (h : TakesNone s t) (c : Chan) {ch : Channel}
    (link : ch.link = (t.chan c).link := by rfl) : TakesNone s (t.setChan c ch) := by
  refine h.trans ⟨rfl, rfl, Nat.le_refl _, fun d => ?_⟩
  rw [State.chan_setChan]
  split
  · rename_i hd
    rw [link, hd]
  · rfl

theorem modChan {s t : State} (h : TakesNone s t) (c : Chan) {f : Channel → Channel}
    (link : (f (t.chan c)).link = (t.chan c).link := by rfl) : TakesNone s (t.modChan c f) := h.setChan c link

theorem finish {s t : State} (h : TakesNone s t) : Ensures (finish t) (TakesNone s) := .next (h.trans elsewhere)

section
variable (s : State)

theorem endLine (clash : Bool) : TakesNone s (s.endLine clash) := by
  unfold State.endLine
  dsimp only
  split <;> exact elsewhere

theorem reportCredit (c : Chan) (clash : Bool) : TakesNone s (s.reportCredit c clash) := by
  by_cases hgone : (s.chan c).tx.onLine = false ∨ (s.chan c).tx.messages = []
  · rw [State.reportCredit_gone clash hgone]
    exact (same s).setChan c
  · rw [not_or, Bool.not_eq_false] at hgone
    obtain ⟨hon, hlisted⟩ := hgone
    obtain ⟨m, rest, hcons⟩ := List.exists_cons_of_ne_nil hlisted
    by_cases hlast : m.sent + 1 = m.length
    · rw [State.reportCredit_last clash hon hcons hlast]
      exact (elsewhere).setChan c
    · rw [State.reportCredit_more clash hon hcons hlast]
      exact (same s).setChan c

/-- The chosen entry leaves the queue or stays; none joins it (04 R67). -/
theorem settleControl (clash : Bool) : TakesNone s (s.settleControl clash) := by
  refine ⟨rfl, rfl, ?_, fun c => ?_⟩
  · cases clash
    · exact List.length_filter_le _ _
    · exact Nat.le_of_eq (List.length_map _)
  · unfold State.settleControl
    rw [State.chan_mapChans]
    rfl

theorem acquirePulse (clock : Nat) : Ensures (execAcquirePulse clock s) (TakesNone s) := by
  refine .live (same s) fun _ => ?_
  split_ifs
  · exact (elsewhere).finish
  · exact (elsewhere).finish
  · exact .next (same s)
  · exact .next (same s)

theorem txdataReport (line : SlotBits) : Ensures (execTxdataReport line s) (TakesNone s) := by
  have hend := endLine s
  refine .live (same s) fun _ => ?_
  split
  · exact .next (same s)
  · dsimp only
    split
    · exact ((hend _).trans (reportCredit _ _ _)).finish
    · exact ((hend _).modChan _ (congrArg Prod.fst (Channel.reportStreamWord_timed _))).finish
    · exact ((hend _).modChan _).finish
    · exact (hend _).finish
    · exact .next (same s)

theorem txcontrolReport (line : SlotBits) : Ensures (execTxcontrolReport line s) (TakesNone s) := by
  refine .live (same s) fun _ => ?_
  split
  · exact .next (same s)
  · split
    · exact ((endLine s _).trans (settleControl _ _)).finish
    all_goals exact .next (same s)

end

theorem otherEvent {line : SlotBits} {clock : Nat} {e : Instr} (he : e ∈ otherEvents line clock) (s : State) :
    Ensures (exec e s) (TakesNone s) := by
  simp only [otherEvents, List.mem_cons, List.not_mem_nil, or_false] at he
  rcases he with rfl | rfl | rfl
  exacts [acquirePulse s clock, txdataReport s line, txcontrolReport s line]

end TakesNone

/-- Settles O20: nothing is due when the steps are taken, an event acts on the state in which they are, their rows in
order take them, and the other events take none. -/
theorem dueStepsComeFirst : Obligations.DueStepsComeFirst := by
  unfold Obligations.DueStepsComeFirst
  refine ⟨fun s => State.takeDue_quiet, fun s => State.takeDue_of_quiet, fun s n line bit e he htimeout hdelay hacts =>
    (frameEvent_actsWhenTaken he).exec_takeDue (State.takeDue_quiet htimeout hdelay) hacts,
    fun s => execAll_dueSteps, fun s t line clock e he ht => ?_⟩
  obtain ⟨hmap, hcount, hqueue, hlink⟩ := TakesNone.otherEvent he s t ht
  exact ⟨hmap, hcount, hqueue, hlink⟩

end Sys2Proof.Machine
end

section
/-! SUPPORT. The Event Unit: what the evaluation at the end of a command gives, that every command but RESET_PIN ends in
it or leaves the part as it is, and the writes to DEVPEND, DEVEN and CEVENT (10 R157 to R164). -/

namespace Sys2Proof.Machine

-- One theorem after another, as in the tests: many at once ask for more threads than there are.
set_option Elab.async false

/-! ### Bits of a word -/

/-- A word is not 0 while one of its bits is set. -/
theorem ne_zero_iff_exists_bit {n : Nat} (x : BitVec n) : x ≠ 0 ↔ ∃ i : Fin n, x.getLsbD i.val = true := by
  refine ⟨fun hx => ?_, fun ⟨i, hi⟩ hx => by simp [hx] at hi⟩
  by_contra hnone
  refine hx (BitVec.eq_of_getLsbD_eq fun i hi => ?_)
  simpa using fun hbit => hnone ⟨⟨i, hi⟩, hbit⟩

/-- Two words share a set bit: the test of an enable mask. -/
theorem and_ne_zero_iff {n : Nat} (x y : BitVec n) :
    x &&& y ≠ 0 ↔ ∃ i : Fin n, x.getLsbD i.val = true ∧ y.getLsbD i.val = true := by
  simp only [ne_zero_iff_exists_bit, BitVec.getLsbD_and, Bool.and_eq_true]

/-- A 1 written clears a latch, and a 0 keeps it (10 R157, R161). -/
theorem getLsbD_clearWritten {n : Nat} (latches : BitVec n) (w : Word) (i : Fin n) :
    (latches &&& ~~~(w.extractLsb' 0 n)).getLsbD i.val = (latches.getLsbD i.val && !w.getLsbD i.val) := by
  simp [i.isLt]

/-! ### What the evaluation gives (10 R158, R162 to R164) -/

/-- A channel's bit of CHSUM: an indication that is set and enabled (10 R163). -/
theorem Channel.summaryBit_iff (ch : Channel) (rxReady txSpace : Bool) :
    ch.summaryBit rxReady txSpace = true ↔
      ∃ i : Fin 6, ch.config.enables.getLsbD i.val = true ∧
        (cevent ch.latches rxReady txSpace).getLsbD i.val = true := by
  simp only [Channel.summaryBit, decide_eq_true_eq, and_ne_zero_iff, and_comm]

/-- INT#: an enabled position of DEVPEND that is set, or a bit of CHSUM (10 R164). -/
theorem EventUnit.lineNow_iff (e : EventUnit) :
    e.lineNow = true ↔
      (∃ i : Fin 8, e.devpend.getLsbD i.val = true ∧ e.enables.getLsbD i.val = true) ∨
        ∃ c : Chan, e.summary.getLsbD c.val = true := by
  simp only [EventUnit.lineNow, Bool.or_eq_true, decide_eq_true_eq, and_ne_zero_iff]
  rw [ne_zero_iff_exists_bit]

@[simp] theorem State.evaluate_cqReady (s : State) : s.evaluate.evu.cqReady = s.cqReadyNow := rfl

@[simp] theorem State.evaluate_rxReady (s : State) :
    s.evaluate.evu.rxReady = perChannel (fun c => (s.chan c).rxReadyNow) := rfl

@[simp] theorem State.evaluate_txSpace (s : State) :
    s.evaluate.evu.txSpace = perChannel (fun c => (s.chan c).txSpaceNow) := rfl

@[simp] theorem State.evaluate_summary (s : State) :
    s.evaluate.evu.summary =
      perChannel (fun c => (s.chan c).summaryBit (s.chan c).rxReadyNow (s.chan c).txSpaceNow) := rfl

/-- INT# is taken from the level values and CHSUM of the same evaluation. -/
theorem State.evaluate_intAsserted (s : State) : s.evaluate.evu.intAsserted = s.evaluate.evu.lineNow := rfl

/-- After the evaluation the Event Unit is what its inputs give. -/
theorem EventsFollow.evaluate (s : State) : EventsFollow s.evaluate := by
  refine ⟨?_, fun c => ?_, fun c => ?_, fun c => ?_, ?_⟩
  · rw [State.evaluate_cqReady, State.cqReadyNow, decide_eq_true_eq, State.evaluate_cq]
  · rw [State.evaluate_rxReady, getLsbD_perChannel, State.chan_evaluate]
  · rw [State.evaluate_txSpace, getLsbD_perChannel, State.chan_evaluate]
  · rw [State.evaluate_summary, State.evaluate_rxReady, State.evaluate_txSpace, getLsbD_perChannel,
      getLsbD_perChannel, getLsbD_perChannel, State.chan_evaluate, Channel.summaryBit_iff]
  · rw [State.evaluate_intAsserted, EventUnit.lineNow_iff]

/-! ### Outcomes that end in the evaluation -/

/-- Every next state that the outcome answers is the state `s` as it was, or one that the Event Unit has evaluated. -/
def EndsEvaluated (s : State) (o : Out) : Prop := Ensures o fun t => t = s ∨ ∃ u : State, t = u.evaluate

namespace EndsEvaluated

variable {s t : State}

theorem idle : EndsEvaluated s (.next s) := Ensures.next (.inl rfl)

theorem fault (f : Fault) : EndsEvaluated s (.fault f) := Ensures.fault f

theorem finish : EndsEvaluated s (finish t) := Ensures.next (.inr ⟨t, rfl⟩)

theorem finishDevice {r : CmdResult} : EndsEvaluated s (finishDevice t r) := .finish

theorem finishChannel {r : CmdResult} : EndsEvaluated s (finishChannel t r) := .finish

/-- RESET# asserted leaves the part as it is (11 R176). -/
theorem live {k : Out} (h : EndsEvaluated s k) : EndsEvaluated s (whenLive s k) := Ensures.live (.inl rfl) fun _ => h

theorem ite {p : Prop} [Decidable p] {a b : Out} (ha : EndsEvaluated s a) (hb : EndsEvaluated s b) :
    EndsEvaluated s (if p then a else b) := by
  split
  · exact ha
  · exact hb

theorem tableAccess {act : State} {tables : List Nat} : EndsEvaluated s (tableAccess s tables act) :=
  .live (.ite .finish .idle)

/-- What ends in the evaluation keeps the Event Unit at what its inputs give. -/
theorem follows {o : Out} (h : EndsEvaluated s o) (hs : EventsFollow s) : Ensures o EventsFollow :=
  h.mono fun t ht => by
    obtain rfl | ⟨u, rfl⟩ := ht
    · exact hs
    · exact .evaluate u

end EndsEvaluated

section
variable (s : State)

/-! ### Channel commands and CDATA accesses -/

theorem execChanOpen_endsEvaluated : EndsEvaluated s (execChanOpen s) := by
  refine .live ?_
  dsimp only
  split
  · exact .ite .finishChannel (.ite .finishChannel .finishChannel)
  · exact .ite .finishChannel (.ite .finishChannel .finishChannel)
  · exact .ite .finishChannel .finishChannel
  · exact .finishChannel

theorem execChanListen_endsEvaluated : EndsEvaluated s (execChanListen s) :=
  .live (.ite (.ite .finishChannel (.ite .finishChannel (.ite .finishChannel .finishChannel))) .finishChannel)

theorem execChanClose_endsEvaluated : EndsEvaluated s (execChanClose s) := by
  refine .live ?_
  dsimp only
  split
  · split <;> exact .finishChannel
  all_goals exact .finishChannel

theorem execChanReset_endsEvaluated : EndsEvaluated s (execChanReset s) := by
  refine .live ?_
  dsimp only
  split <;> exact .finishChannel

theorem execChanFlush_endsEvaluated : EndsEvaluated s (execChanFlush s) :=
  .live (.ite .finishChannel .finishChannel)

theorem State.postCredit_endsEvaluated (c : Chan) : EndsEvaluated s (s.postCredit c) :=
  .ite (.ite .finishChannel (.ite .finishChannel (.ite .finishChannel (.ite .finishChannel .finishChannel))))
    .finishChannel

theorem State.postStream_endsEvaluated (c : Chan) : EndsEvaluated s (s.postStream c) :=
  .ite (.ite .finishChannel .finishChannel) .finishChannel

theorem execChanPost_endsEvaluated : EndsEvaluated s (execChanPost s) := by
  refine .live ?_
  split
  · exact s.postCredit_endsEvaluated _
  · exact s.postStream_endsEvaluated _

theorem State.abandonCredit_endsEvaluated (c : Chan) : EndsEvaluated s (s.abandonCredit c) :=
  .ite .finishChannel .finishChannel

theorem State.abandonStream_endsEvaluated (c : Chan) : EndsEvaluated s (s.abandonStream c) :=
  .ite (.ite .finishChannel .finishChannel) .finishChannel

theorem execChanAbandon_endsEvaluated : EndsEvaluated s (execChanAbandon s) := by
  refine .live ?_
  split
  · exact s.abandonCredit_endsEvaluated _
  · exact s.abandonStream_endsEvaluated _

theorem execChanRelease_endsEvaluated : EndsEvaluated s (execChanRelease s) := by
  refine .live ?_
  split
  · exact .finishChannel
  · exact .ite .finishChannel .finishChannel

theorem execCdataWrite_endsEvaluated (w : Word) : EndsEvaluated s (execCdataWrite w s) :=
  .live (.ite (.ite .finish (.fault _)) .finish)

theorem execCdataRead_endsEvaluated : EndsEvaluated s (execCdataRead s) := by
  refine .live ?_
  dsimp only
  split
  · exact .finish
  · exact .ite (.ite .finish (.fault _)) .finish

/-! ### Device commands and register writes -/

theorem execStart_endsEvaluated : EndsEvaluated s (execStart s) := by
  refine .live ?_
  split <;> exact .finishDevice

theorem execStop_endsEvaluated : EndsEvaluated s (execStop s) := by
  refine .live ?_
  split <;> exact .finishDevice

theorem execPopcq_endsEvaluated : EndsEvaluated s (execPopcq s) := by
  refine .live ?_
  split <;> exact .finishDevice

theorem execUnknownCommandCode_endsEvaluated (port : CmdPort) (w : Word) :
    EndsEvaluated s (execUnknownCommandCode port w s) := by
  refine .live (.ite .idle ?_)
  cases port
  · exact .finishDevice
  · exact .finishChannel

theorem execTselWrite_endsEvaluated (w : Word) : EndsEvaluated s (execTselWrite w s) := by
  refine .live ?_
  split
  · exact .finish
  · exact .finishDevice

theorem execRegisterWrite_endsEvaluated (r : PlainReg) (w : Word) : EndsEvaluated s (execRegisterWrite r w s) := by
  refine .live ?_
  cases r <;> exact .finish

/-! ### Synchronisation and frames -/

theorem execCandidateHeader_endsEvaluated (line : SlotBits) : EndsEvaluated s (execCandidateHeader line s) := by
  refine .live (.ite ?_ .idle)
  dsimp only
  split <;> exact .finish

/-! ### Slots -/

theorem State.driveAnswer_endsEvaluated (t : State) (n : Slot) (c : Chan) (a : Answer) :
    EndsEvaluated s (t.driveAnswer n c a) := by
  unfold State.driveAnswer
  split
  · exact .finish
  · exact .ite .finish (.fault _)

theorem execTxdataOffer_endsEvaluated (n : Slot) : EndsEvaluated s (execTxdataOffer n s) := by
  refine .live ?_
  dsimp only
  split
  · split
    · exact State.driveAnswer_endsEvaluated s _ n _ _
    · exact .finish
  · exact .idle

theorem execTxdataReport_endsEvaluated (line : SlotBits) : EndsEvaluated s (execTxdataReport line s) := by
  refine .live ?_
  split
  · exact .idle
  · dsimp only
    split
    · exact .finish
    · exact .finish
    · exact .finish
    · exact .finish
    · exact .idle

theorem execTxcontrolOffer_endsEvaluated (n : Slot) : EndsEvaluated s (execTxcontrolOffer n s) := by
  refine .live ?_
  dsimp only
  split
  · split <;> exact .finish
  · exact .idle

theorem execTxcontrolReport_endsEvaluated (line : SlotBits) : EndsEvaluated s (execTxcontrolReport line s) := by
  refine .live ?_
  split
  · exact .idle
  · split
    · exact .finish
    all_goals exact .idle

theorem execRxdataWord_endsEvaluated (n : Slot) (line : SlotBits) : EndsEvaluated s (execRxdataWord n line s) := by
  refine .live ?_
  dsimp only
  split
  · exact .ite (.fault _) .finish
  · exact .idle

theorem execRxcontrolWord_endsEvaluated (n : Slot) (line : SlotBits) :
    EndsEvaluated s (execRxcontrolWord n line s) := by
  refine .live ?_
  dsimp only
  split
  · exact .finish
  · exact .idle

theorem execUnusedSlotWord_endsEvaluated (n : Slot) (line : SlotBits) :
    EndsEvaluated s (execUnusedSlotWord n line s) := by
  refine .live ?_
  dsimp only
  split
  · exact .finish
  · exact .idle

/-! ### Every command -/

/-- Every command but RESET_PIN ends in the evaluation or leaves the part as it is (log entry 10). Each line has the
branches of its command. -/
theorem exec_endsEvaluated (i : Instr) (h : ∀ asserted, i ≠ .resetPin asserted) : EndsEvaluated s (exec i s) := by
  cases i
  case start => exact execStart_endsEvaluated s
  case stop => exact execStop_endsEvaluated s
  case switch => exact .live (.ite .finishDevice (.ite .finishDevice (.ite .finishDevice .finishDevice)))
  case cancel => exact .live (.ite .finishDevice .finishDevice)
  case popcq => exact execPopcq_endsEvaluated s
  case softreset => exact .live .finishDevice
  case unknownCommandCode port w => exact execUnknownCommandCode_endsEvaluated s port w
  case chanOpen => exact execChanOpen_endsEvaluated s
  case chanListen => exact execChanListen_endsEvaluated s
  case chanClose => exact execChanClose_endsEvaluated s
  case chanReset => exact execChanReset_endsEvaluated s
  case chanFlush => exact execChanFlush_endsEvaluated s
  case chanPost => exact execChanPost_endsEvaluated s
  case chanAbandon => exact execChanAbandon_endsEvaluated s
  case chanRelease => exact execChanRelease_endsEvaluated s
  case cdataWrite w => exact execCdataWrite_endsEvaluated s w
  case cdataRead => exact execCdataRead_endsEvaluated s
  case hcfgWrite w => exact .live (.ite .finish .finishDevice)
  case hdivWrite w => exact .live (.ite .finish .finishDevice)
  case devpendWrite w => exact .live .finish
  case devenWrite w => exact .live .finish
  case ceventWrite w => exact .live .finish
  case timingWrite w => exact .live (.ite .finishDevice .finish)
  case timing2Write w => exact .live (.ite .finishDevice .finish)
  case cqthrWrite w => exact .live (.ite .finish .finishDevice)
  case tselWrite w => exact execTselWrite_endsEvaluated s w
  case pendingBankWrite w => exact .tableAccess
  case regionTableWrite w => exact .tableAccess
  case configWordWrite w => exact .tableAccess
  case channelCounterRead => exact .tableAccess
  case highwayCounterRead => exact .tableAccess
  case tableRead => exact .tableAccess
  case tableWriteIgnored w => exact .tableAccess
  case registerWrite r w => exact execRegisterWrite_endsEvaluated s r w
  case resetPin asserted => exact absurd rfl (h asserted)
  case acquirePulse clock => exact .live (.ite (.ite .finish (.ite .finish .idle)) .idle)
  case candidateHeader line => exact execCandidateHeader_endsEvaluated s line
  case syncMiss => exact .live (.ite .finish .idle)
  case holdoverMiss => exact .live (.ite .finish .idle)
  case misplacedPulse bit => exact .live (.ite (.ite .finish (.ite .finish .idle)) .idle)
  case followerHeaderSlot line => exact .live (.ite .finish .idle)
  case masterHeaderSlot line => exact .live (.ite (.ite .finish .finish) .idle)
  case mapSwitch => exact .live .finish
  case answerTimerExpiry c => exact .live .finish
  case probeTimerExpiry c => exact .live .finish
  case refreshTimerExpiry => exact .live .finish
  case txdataOffer n => exact execTxdataOffer_endsEvaluated s n
  case txdataReport line => exact execTxdataReport_endsEvaluated s line
  case drainCompletion c => exact .live .finish
  case txcontrolOffer n => exact execTxcontrolOffer_endsEvaluated s n
  case txcontrolReport line => exact execTxcontrolReport_endsEvaluated s line
  case rxdataWord n line => exact execRxdataWord_endsEvaluated s n line
  case rxcontrolWord n line => exact execRxcontrolWord_endsEvaluated s n line
  case unusedSlotWord n line => exact execUnusedSlotWord_endsEvaluated s n line
  case pulseAtExpectedBit => exact .live (.ite (.ite .finish (.ite .finish .idle)) .idle)

end

section
variable {s : State} (hs : EventsFollow s)
include hs

/-- RESET_PIN makes no evaluation: the reset values agree with one another, and a release changes no input. -/
theorem execResetPin_eventsFollow (asserted : Bool) : Ensures (execResetPin asserted s) EventsFollow := by
  cases asserted
  · exact .next hs
  · obtain ⟨hreset, -⟩ := resetMeetsTheInvariants
    exact .next hreset

theorem exec_eventsFollow (i : Instr) : Ensures (exec i s) EventsFollow := by
  by_cases hpin : ∃ asserted, i = .resetPin asserted
  · obtain ⟨asserted, rfl⟩ := hpin
    exact execResetPin_eventsFollow hs asserted
  · exact (exec_endsEvaluated s i (not_exists.mp hpin)).follows hs

end

/-- Settles O6: the evaluation gives the agreement, and each command ends in it, changes nothing or resets the part. -/
theorem eventUnitFollowsItsInputs : Obligations.EventUnitFollowsItsInputs := by
  unfold Obligations.EventUnitFollowsItsInputs
  refine ⟨fun s t hs hstep => ?_, fun s => ⟨.evaluate s, _, _, _, _, _, rfl⟩⟩
  unfold step at hstep
  split at hstep
  · cases hstep
    exact hs
  · rename_i i rest _
    have hrest : EventsFollow { s with pending := rest } := hs
    exact exec_eventsFollow hrest i t hstep

/-! ### Writes to DEVPEND, DEVEN and CEVENT (10 R157, R159, R161) -/

/-- Settles O45: each write is taken whole by a live part, and acts bit by bit. -/
theorem eventWritesClearAndEnable : Obligations.EventWritesClearAndEnable := by
  unfold Obligations.EventWritesClearAndEnable
  intro w s hlive
  refine ⟨⟨_, whenLive_live _ hlive, getLsbD_clearWritten _ w⟩, ⟨_, whenLive_live _ hlive, fun i => ?_⟩,
    ⟨_, whenLive_live _ hlive, getLsbD_clearWritten _ w⟩⟩
  simp [i.isLt]

end Sys2Proof.Machine
end

section
/-! SUPPORT. The two resets: RESET# holds the part at its reset state, and SOFTRESET keeps the configuration (11 R175,
R176). -/

namespace Sys2Proof.Machine

-- One theorem after another, as in the tests: many at once ask for more threads than there are.
set_option Elab.async false

/-! ### RESET# (11 R176) -/

/-- While RESET# is asserted every command but RESET_PIN is held (log entry 13). -/
theorem exec_held {s : State} (h : s.resetPin = true) (i : Instr) (hpin : ∀ asserted, i ≠ .resetPin asserted) :
    exec i s = .next s := by
  cases i
  case resetPin asserted => exact absurd rfl (hpin asserted)
  all_goals exact whenLive_held _ h

/-- A part that runs no frames as a Master drives only the word of a slot in progress (01 R4, R7). -/
theorem State.drivenWord_of_not_master {s : State} (h : s.hwi.masterRuns = false) :
    s.drivenWord = s.hwi.line.map (·.bits) := if_neg fun hheader => by simp [h] at hheader

/-- Settles O2: RESET_PIN sets every field, other commands are held, and the reset Highway Interface is no Master. -/
theorem resetPinHoldsThePart : Obligations.ResetPinHoldsThePart := by
  unfold Obligations.ResetPinHoldsThePart
  exact ⟨fun s => rfl, fun s => rfl, fun i s hheld hpin => exec_held hheld i hpin,
    fun q => ⟨rfl, State.drivenWord_of_not_master rfl, rfl⟩⟩

/-! ### SOFTRESET (11 R175) -/

/-- SOFTRESET of a live part: the reset results hold Done already (11 R169). -/
theorem exec_softreset {s : State} (hlive : s.resetPin = false) : exec .softreset s = .next s.softReset.evaluate :=
  whenLive_live _ hlive

theorem State.softReset_chan (s : State) (c : Chan) : s.softReset.chan c = (s.chan c).softReset :=
  State.chan_mapChans _ _ _

/-- Settles O3: field by field, under the evaluation that ends the command. -/
theorem softResetKeepsConfiguration : Obligations.SoftResetKeepsConfiguration := by
  unfold Obligations.SoftResetKeepsConfiguration
  intro s hlive
  refine ⟨_, exec_softreset hlive, rfl, rfl, rfl, fun c => ?_, rfl, rfl, rfl, rfl, .evaluate _, rfl, hlive, rfl⟩
  rw [State.chan_evaluate, State.softReset_chan]
  rfl

end Sys2Proof.Machine
end

section
/-! SUPPORT. The queue of waiting commands and the two results that the host reads: no operation of the blocks moves
them (11 R168, R169; log entry 26). -/

namespace Sys2Proof.Machine

-- One theorem after another, as in the tests: many at once ask for more threads than there are.
set_option Elab.async false

/-- The waiting commands, the channel result and the device result (11 R169; log entry 26). -/
def State.results (s : State) : List Instr × CmdResult × CmdResult :=
  (s.pending, s.host.channelResult, s.host.deviceResult)

theorem TouchesOnly.results {c : Chan} {s t : State} (h : TouchesOnly c s t) : t.results = s.results := by
  rw [State.results, h.pending, h.host]
  rfl

section
variable (s : State) (c : Chan)

@[simp] theorem State.modChan_results (f : Channel → Channel) : (s.modChan c f).results = s.results := rfl

@[simp] theorem State.withHwi_results (h : Highway) : State.results { s with hwi := h } = s.results := rfl

@[simp] theorem State.countHw_results (k : HwCounter) : (s.countHw k).results = s.results := rfl

@[simp] theorem State.noteHsync_results (k : Nat) : (s.noteHsync k).results = s.results := rfl

@[simp] theorem State.beginFrame_results : s.beginFrame.results = s.results := rfl

@[simp] theorem State.beginFrameOnPulse_results : s.beginFrameOnPulse.results = s.results := rfl

@[simp] theorem State.lockOn_results (payload : Word) : (s.lockOn payload).results = s.results := rfl

@[simp] theorem State.loseLock_results (pulse : Option Nat) : (s.loseLock pulse).results = s.results := rfl

@[simp] theorem State.enterSlot_results (n : Slot) : (s.enterSlot n).results = s.results := rfl

@[simp] theorem State.frameStart_results : s.frameStart.results = s.results := rfl

@[simp] theorem State.loseHighway_results (dest : Sync) (pulse : Option Nat) :
    (s.loseHighway dest pulse).results = s.results := rfl

@[simp] theorem State.masterConflict_results : s.masterConflict.results = s.results := rfl

@[simp] theorem State.settleControl_results (clash : Bool) : (s.settleControl clash).results = s.results := rfl

@[simp] theorem State.startOpening_results : (s.startOpening c).results = s.results :=
  (TouchesOnly.startOpening c s).results

@[simp] theorem State.enterOpen_results : (s.enterOpen c).results = s.results := (TouchesOnly.enterOpen c s).results

@[simp] theorem State.closeCredit_results : (s.closeCredit c).results = s.results :=
  (TouchesOnly.closeCredit c s).results

@[simp] theorem State.closeStream_results : (s.closeStream c).results = s.results :=
  (TouchesOnly.closeStream c s).results

@[simp] theorem State.closeUnopened_results : (s.closeUnopened c).results = s.results :=
  (TouchesOnly.closeUnopened c s).results

@[simp] theorem State.closeUnconnected_results (cause : Cause) : (s.closeUnconnected c cause).results = s.results :=
  (TouchesOnly.closeUnconnected c s cause).results

@[simp] theorem State.queueRequest_results (op : Opcode) : (s.queueRequest c op).results = s.results := rfl

@[simp] theorem State.resetConnected_results : (s.resetConnected c).results = s.results :=
  (TouchesOnly.resetConnected c s).results

@[simp] theorem State.mapTest_results : s.mapTest.results = s.results := by rw [State.mapTest_frame]; rfl

@[simp] theorem State.takeRefresh_results : s.takeRefresh.results = s.results := by rw [State.takeRefresh_frame]; rfl

@[simp] theorem State.takeAnswerExpiry_results : (s.takeAnswerExpiry c).results = s.results :=
  (TouchesOnly.takeAnswerExpiry c s).results

@[simp] theorem State.takeProbeExpiry_results : (s.takeProbeExpiry c).results = s.results :=
  (TouchesOnly.takeProbeExpiry c s).results

@[simp] theorem State.takeDrain_results : (s.takeDrain c).results = s.results := (TouchesOnly.takeDrain c s).results

@[simp] theorem State.takeDue_results : s.takeDue.results = s.results := by
  obtain ⟨-, hhost, -, -, hpending⟩ := s.takeDue_frame
  rw [State.results, hhost, hpending]
  rfl

@[simp] theorem State.startHighway_results : s.startHighway.results = s.results := by
  unfold State.startHighway
  dsimp only
  split <;> rfl

@[simp] theorem State.endLine_results (clash : Bool) : (s.endLine clash).results = s.results := by
  unfold State.endLine
  dsimp only
  split <;> rfl

@[simp] theorem State.reportCredit_results (clash : Bool) : (s.reportCredit c clash).results = s.results :=
  (TouchesOnly.reportCredit c s clash).results

@[simp] theorem State.arbitrate_results : s.arbitrate.2.results = s.results := by
  unfold State.arbitrate
  split
  · rfl
  · split <;> rfl

@[simp] theorem State.screen_results (w : Received) : (s.screen w).results = s.results := by
  unfold State.screen
  split <;> rfl

@[simp] theorem State.disposeUnused_results (w : Received) : (s.disposeUnused w).results = s.results := by
  unfold State.disposeUnused
  split <;> rfl

@[simp] theorem State.takeData_results (k : Kind) (p : Word) : (s.takeData c k p).results = s.results := by
  unfold State.takeData
  dsimp only
  split <;> rfl

@[simp] theorem State.receiveData_results (w : Received) : (s.receiveData c w).results = s.results := by
  cases w with
  | checkError => unfold State.receiveData; dsimp only; split <;> rfl
  | word k p =>
    cases hk : k.isData with
    | true =>
      rw [State.receiveData_data s c p hk]
      split
      · exact s.takeData_results c k p
      · rfl
    | false =>
      cases k
      case control | header | fill | idle => rfl
      all_goals cases hk

@[simp] theorem State.takeControl_results (source : Address) (w : Word) :
    (s.takeControl source w).results = s.results := by
  have hreply := fun d st ch => (TouchesOnly.queueResponse d (s.countHw .unmatchedControl) .reset st ch false).results
  unfold State.takeControl
  dsimp only
  split_ifs
  · rfl
  · rfl
  · exact (TouchesOnly.matchedWord _ s _ _).results
  · unfold State.unmatchedWord
    dsimp only
    split
    · exact hreply _ _ _
    · rfl

@[simp] theorem State.receiveControl_results (source : Address) (w : Received) :
    (s.receiveControl source w).results = s.results := by
  unfold State.receiveControl
  split
  case h_4 => exact s.takeControl_results _ _
  all_goals rfl

@[simp] theorem State.checkHeader_results (line : SlotBits) : (s.checkHeader line).results = s.results := by
  unfold State.checkHeader
  split
  · split <;> rfl
  · rfl

@[simp] theorem State.inFollowerFrame_results : s.inFollowerFrame.results = s.results := by
  unfold State.inFollowerFrame
  split <;> rfl

@[simp] theorem State.inMasterFrame_results : s.inMasterFrame.results = s.results := by
  unfold State.inMasterFrame
  split <;> rfl

end

end Sys2Proof.Machine
end

section
/-! SUPPORT. Which commands write the results: channel commands the channel result, device commands and refused writes
the device result, an unlisted code the result of its register, the resets their values, and no other command either (11
R168, R169, R173). -/

namespace Sys2Proof.Machine

-- One theorem after another, as in the tests: many at once ask for more threads than there are.
set_option Elab.async false

/-! ### Outcomes by the results that they may write -/

/-- From `s` to `t` the queue stayed, and a result that changed is one of those given: `channel` for the channel result,
`device` for the device result. -/
structure ResultsWithin (channel device : CmdResult → Prop) (s t : State) : Prop where
  pending : t.pending = s.pending
  channel : t.host.channelResult ≠ s.host.channelResult → channel t.host.channelResult
  device : t.host.deviceResult ≠ s.host.deviceResult → device t.host.deviceResult

/-- Every next state that the outcome answers has the queue of `s`, and its changed results are among those given. -/
def EndsWithin (channel device : CmdResult → Prop) (s : State) (o : Out) : Prop :=
  Ensures o (ResultsWithin channel device s)

section
variable {channel device : CmdResult → Prop} {s t : State} {r : CmdResult}

namespace ResultsWithin

theorem of_results (h : t.results = s.results) : ResultsWithin channel device s t := by
  simp only [State.results, Prod.mk.injEq] at h
  obtain ⟨hpending, hchannel, hdevice⟩ := h
  exact ⟨hpending, fun hne => absurd hchannel hne, fun hne => absurd hdevice hne⟩

theorem setDeviceResult (hr : device r) (h : t.results = s.results) :
    ResultsWithin channel device s (t.setDeviceResult r) := by
  obtain ⟨hpending, hchannel, -⟩ : ResultsWithin channel device s t := .of_results h
  exact ⟨hpending, hchannel, fun _ => hr⟩

theorem setChannelResult (hr : channel r) (h : t.results = s.results) :
    ResultsWithin channel device s (t.setChannelResult r) := by
  obtain ⟨hpending, -, hdevice⟩ : ResultsWithin channel device s t := .of_results h
  exact ⟨hpending, fun _ => hr, hdevice⟩

/-- The evaluation that ends a command moves neither the queue nor a result. -/
theorem evaluate (h : ResultsWithin channel device s t) : ResultsWithin channel device s t.evaluate :=
  ⟨h.pending, h.channel, h.device⟩

/-- What leaves the queue may write what every result may be. -/
theorem of_any (hchannel : ∀ r, channel r) (hdevice : ∀ r, device r) (h : t.pending = s.pending := by rfl) :
    ResultsWithin channel device s t := ⟨h, fun _ => hchannel _, fun _ => hdevice _⟩

end ResultsWithin

namespace EndsWithin

theorem idle : EndsWithin channel device s (.next s) := Ensures.next (.of_results rfl)

theorem fault (f : Fault) : EndsWithin channel device s (.fault f) := Ensures.fault f

theorem finish (h : t.results = s.results := by simp) : EndsWithin channel device s (finish t) :=
  Ensures.next (.of_results h)

theorem finishDevice (hr : device r) (h : t.results = s.results := by simp) :
    EndsWithin channel device s (finishDevice t r) := Ensures.next (ResultsWithin.setDeviceResult hr h).evaluate

theorem finishChannel (hr : channel r) (h : t.results = s.results := by simp) :
    EndsWithin channel device s (finishChannel t r) := Ensures.next (ResultsWithin.setChannelResult hr h).evaluate

/-- RESET# asserted leaves the part as it is (11 R176). -/
theorem live {k : Out} (h : EndsWithin channel device s k) : EndsWithin channel device s (whenLive s k) :=
  Ensures.live (.of_results rfl) fun _ => h

theorem ite {p : Prop} [Decidable p] {a b : Out} (ha : EndsWithin channel device s a)
    (hb : EndsWithin channel device s b) : EndsWithin channel device s (if p then a else b) := by
  split
  · exact ha
  · exact hb

/-- The index that a table access advances is no result (11 R171). -/
theorem tableAccess {act : State} {tables : List Nat} (h : ResultsWithin channel device s act) :
    EndsWithin channel device s (tableAccess s tables act) := by
  obtain ⟨hpending, hchannel, hdevice⟩ := h
  exact tableAccess_ensures s (.of_results rfl) fun _ _ => ⟨hpending, hchannel, hdevice⟩

end EndsWithin

end

/-! ### Channel commands: they may write the channel result (11 R173) -/

section
variable {channel device : CmdResult → Prop} (s : State) (hr : ∀ r, channel r)
include hr

theorem execChanOpen_endsWithin : EndsWithin channel device s (execChanOpen s) := by
  refine .live ?_
  dsimp only
  split
  · exact .ite (.finishChannel (hr _)) (.ite (.finishChannel (hr _)) (.finishChannel (hr _)))
  · exact .ite (.finishChannel (hr _)) (.ite (.finishChannel (hr _)) (.finishChannel (hr _)))
  · exact .ite (.finishChannel (hr _)) (.finishChannel (hr _))
  · exact .finishChannel (hr _)

theorem execChanListen_endsWithin : EndsWithin channel device s (execChanListen s) :=
  .live (.ite (.ite (.finishChannel (hr _)) (.ite (.finishChannel (hr _)) (.ite (.finishChannel (hr _))
    (.finishChannel (hr _))))) (.finishChannel (hr _)))

theorem execChanClose_endsWithin : EndsWithin channel device s (execChanClose s) := by
  refine .live ?_
  dsimp only
  split
  · split <;> exact .finishChannel (hr _)
  all_goals exact .finishChannel (hr _)

theorem execChanReset_endsWithin : EndsWithin channel device s (execChanReset s) := by
  refine .live ?_
  dsimp only
  split <;> exact .finishChannel (hr _)

theorem execChanFlush_endsWithin : EndsWithin channel device s (execChanFlush s) :=
  .live (.ite (.finishChannel (hr _)) (.finishChannel (hr _)))

theorem execChanPost_endsWithin : EndsWithin channel device s (execChanPost s) := by
  refine .live ?_
  split
  · unfold State.postCredit
    dsimp only
    split_ifs
    all_goals exact .finishChannel (hr _) rfl
  · unfold State.postStream
    dsimp only
    split_ifs
    all_goals exact .finishChannel (hr _)

theorem execChanAbandon_endsWithin : EndsWithin channel device s (execChanAbandon s) := by
  refine .live ?_
  split
  · exact .ite (.finishChannel (hr _)) (.finishChannel (hr _))
  · exact .ite (.ite (.finishChannel (hr _)) (.finishChannel (hr _))) (.finishChannel (hr _))

theorem execChanRelease_endsWithin : EndsWithin channel device s (execChanRelease s) := by
  refine .live ?_
  split
  · exact .finishChannel (hr _)
  · exact .ite (.finishChannel (hr _)) (.finishChannel (hr _))

end

/-! ### Device commands: they may write the device result (11 R173) -/

section
variable {channel device : CmdResult → Prop} (s : State) (hr : ∀ r, device r)
include hr

theorem execStart_endsWithin : EndsWithin channel device s (execStart s) := by
  refine .live ?_
  split <;> exact .finishDevice (hr _)

theorem execStop_endsWithin : EndsWithin channel device s (execStop s) := by
  refine .live ?_
  split
  · exact .finishDevice (hr _)
  · exact .finishDevice (hr _) rfl
  · exact .finishDevice (hr _)
  · exact .finishDevice (hr _)

theorem execSwitch_endsWithin : EndsWithin channel device s (execSwitch s) :=
  .live (.ite (.finishDevice (hr _)) (.ite (.finishDevice (hr _)) (.ite (.finishDevice (hr _) rfl)
    (.finishDevice (hr _) rfl))))

theorem execCancel_endsWithin : EndsWithin channel device s (execCancel s) :=
  .live (.ite (.finishDevice (hr _) rfl) (.finishDevice (hr _)))

theorem execPopcq_endsWithin : EndsWithin channel device s (execPopcq s) := by
  refine .live ?_
  split
  · exact .finishDevice (hr _)
  · exact .finishDevice (hr _) rfl

/-- SOFTRESET sets the channel result to its reset value beside its own (11 R175). -/
theorem execSoftreset_endsWithin (hchannel : ∀ r, channel r) : EndsWithin channel device s (execSoftreset s) :=
  .live (Ensures.next (.of_any hchannel hr))

end

/-! ### Refusable writes and unlisted codes (11 R169, R171, R173) -/

section
variable {channel device : CmdResult → Prop} (s : State) (w : Word)

theorem execUnknownCommandCode_endsWithin (port : CmdPort) (hdevice : port = .device → device .badConfig)
    (hchannel : port = .channel → channel .badConfig) :
    EndsWithin channel device s (execUnknownCommandCode port w s) := by
  refine .live (.ite .idle ?_)
  cases port
  · exact .finishDevice (hdevice rfl)
  · exact .finishChannel (hchannel rfl)

theorem execHcfgWrite_endsWithin (hr : device .wrongState) : EndsWithin channel device s (execHcfgWrite w s) :=
  .live (.ite (.finish rfl) (.finishDevice hr))

theorem execHdivWrite_endsWithin (hr : device .wrongState) : EndsWithin channel device s (execHdivWrite w s) :=
  .live (.ite (.finish rfl) (.finishDevice hr))

theorem execTimingWrite_endsWithin (hr : device .badConfig) : EndsWithin channel device s (execTimingWrite w s) :=
  .live (.ite (.finishDevice hr) (.finish rfl))

theorem execTiming2Write_endsWithin (hr : device .badConfig) : EndsWithin channel device s (execTiming2Write w s) :=
  .live (.ite (.finishDevice hr) (.finish rfl))

theorem execCqthrWrite_endsWithin (hr : device .badConfig) : EndsWithin channel device s (execCqthrWrite w s) :=
  .live (.ite (.finish rfl) (.finishDevice hr))

theorem execTselWrite_endsWithin (hr : device .badConfig) : EndsWithin channel device s (execTselWrite w s) := by
  refine .live ?_
  split
  · exact .finish rfl
  · exact .finishDevice hr

section
variable (hstate : device .wrongState) (hrange : device .badConfig)
include hstate hrange

theorem execPendingBankWrite_endsWithin : EndsWithin channel device s (execPendingBankWrite w s) := by
  refine .tableAccess ?_
  unfold State.writePending
  split
  · exact .setDeviceResult hstate rfl
  · split
    · exact .of_results rfl
    · exact .setDeviceResult hrange rfl

theorem execRegionTableWrite_endsWithin : EndsWithin channel device s (execRegionTableWrite w s) := by
  refine .tableAccess ?_
  unfold State.writeRegion
  dsimp only
  split
  · exact .setDeviceResult hrange rfl
  · split
    · exact .of_results rfl
    · exact .setDeviceResult hstate rfl

theorem execConfigWordWrite_endsWithin : EndsWithin channel device s (execConfigWordWrite w s) := by
  refine .tableAccess ?_
  unfold State.writeConfig
  dsimp only
  split
  · exact .setDeviceResult hrange rfl
  · split
    · exact .setDeviceResult hstate rfl
    · exact .of_results rfl

end

end

/-! ### Commands that write no result -/

section
variable {channel device : CmdResult → Prop} (s : State)

theorem execCdataWrite_endsWithin (w : Word) : EndsWithin channel device s (execCdataWrite w s) :=
  .live (.ite (.ite (.finish rfl) (.fault _)) .finish)

theorem execCdataRead_endsWithin : EndsWithin channel device s (execCdataRead s) := by
  refine .live ?_
  dsimp only
  split
  · exact .finish rfl
  · exact .ite (.ite (.finish rfl) (.fault _)) (.finish rfl)

theorem execRegisterWrite_endsWithin (r : PlainReg) (w : Word) :
    EndsWithin channel device s (execRegisterWrite r w s) := by
  refine .live ?_
  cases r <;> exact .finish rfl

theorem execCandidateHeader_endsWithin (line : SlotBits) :
    EndsWithin channel device s (execCandidateHeader line s) := by
  refine .live (.ite ?_ .idle)
  dsimp only
  split <;> exact .finish

theorem execTxdataOffer_endsWithin (n : Slot) : EndsWithin channel device s (execTxdataOffer n s) := by
  have hdue := s.takeDue_results
  refine .live ?_
  dsimp only
  generalize s.takeDue = t at hdue ⊢
  split
  · split
    · unfold State.driveAnswer
      split
      · exact .finish hdue
      · exact .ite (.finish hdue) (.fault _)
    · exact .finish hdue
  · exact .idle

theorem execTxdataReport_endsWithin (line : SlotBits) : EndsWithin channel device s (execTxdataReport line s) := by
  refine .live ?_
  split
  · exact .idle
  · dsimp only
    split
    · exact .finish
    · exact .finish
    · exact .finish
    · exact .finish
    · exact .idle

theorem execTxcontrolOffer_endsWithin (n : Slot) : EndsWithin channel device s (execTxcontrolOffer n s) := by
  have hchosen : s.takeDue.arbitrate.2.results = s.results := by simp
  refine .live ?_
  dsimp only
  split
  · split
    · rename_i t1 ht1
      rw [ht1] at hchosen
      exact .finish hchosen
    · rename_i t1 ht1
      rw [ht1] at hchosen
      exact .finish hchosen
  · exact .idle

theorem execTxcontrolReport_endsWithin (line : SlotBits) :
    EndsWithin channel device s (execTxcontrolReport line s) := by
  refine .live ?_
  split
  · exact .idle
  · split
    · exact .finish
    all_goals exact .idle

theorem execRxdataWord_endsWithin (n : Slot) (line : SlotBits) :
    EndsWithin channel device s (execRxdataWord n line s) := by
  refine .live ?_
  dsimp only
  split
  · exact .ite (.fault _) .finish
  · exact .idle

theorem execRxcontrolWord_endsWithin (n : Slot) (line : SlotBits) :
    EndsWithin channel device s (execRxcontrolWord n line s) := by
  refine .live ?_
  dsimp only
  split
  · exact .finish
  · exact .idle

theorem execUnusedSlotWord_endsWithin (n : Slot) (line : SlotBits) :
    EndsWithin channel device s (execUnusedSlotWord n line s) := by
  refine .live ?_
  dsimp only
  split
  · exact .finish
  · exact .idle

end

/-! ### Every command -/

/-- The channel result `r` may come of command `i` (11 R168, R173). -/
def mayWriteChannel (i : Instr) (r : CmdResult) : Prop :=
  i ∈ channelCommands ∨ (∃ w, i = .unknownCommandCode .channel w ∧ r = .badConfig) ∨ i = .softreset ∨
    i = .resetPin true

/-- The device result `r` may come of command `i` (11 R168, R171, R173). -/
def mayWriteDevice (i : Instr) (r : CmdResult) : Prop :=
  i ∈ deviceCommands ∨ (∃ w, i = .unknownCommandCode .device w ∧ r = .badConfig) ∨
    (∃ w, i ∈ refusableWrites w ∧ (r = .wrongState ∨ r = .badConfig)) ∨ i = .resetPin true

section
variable {i : Instr}

theorem mayWriteChannel_any (h : i ∈ channelCommands := by decide) (r : CmdResult) : mayWriteChannel i r := .inl h

theorem mayWriteDevice_any (h : i ∈ deviceCommands := by decide) (r : CmdResult) : mayWriteDevice i r := .inl h

/-- A refusable write may be refused by the state found (11 R169). -/
theorem mayWriteDevice_wrongState (w : Word) (h : i ∈ refusableWrites w := by simp [refusableWrites]) :
    mayWriteDevice i .wrongState := .inr (.inr (.inl ⟨w, h, .inl rfl⟩))

/-- A refusable write may be refused by the word written (11 R169). -/
theorem mayWriteDevice_badConfig (w : Word) (h : i ∈ refusableWrites w := by simp [refusableWrites]) :
    mayWriteDevice i .badConfig := .inr (.inr (.inl ⟨w, h, .inr rfl⟩))

end

theorem execResetPin_endsWithin (s : State) (asserted : Bool) :
    EndsWithin (mayWriteChannel (.resetPin asserted)) (mayWriteDevice (.resetPin asserted)) s
      (execResetPin asserted s) := by
  cases asserted
  · exact Ensures.next (.of_results rfl)
  · exact Ensures.next (.of_any (fun _ => .inr (.inr (.inr rfl))) fun _ => .inr (.inr (.inr rfl)))

/-- Each command keeps the queue and writes the results that are its own. -/
theorem exec_endsWithin (i : Instr) (s : State) :
    EndsWithin (mayWriteChannel i) (mayWriteDevice i) s (exec i s) := by
  cases i
  case start => exact execStart_endsWithin s mayWriteDevice_any
  case stop => exact execStop_endsWithin s mayWriteDevice_any
  case switch => exact execSwitch_endsWithin s mayWriteDevice_any
  case cancel => exact execCancel_endsWithin s mayWriteDevice_any
  case popcq => exact execPopcq_endsWithin s mayWriteDevice_any
  case softreset => exact execSoftreset_endsWithin s mayWriteDevice_any fun _ => .inr (.inr (.inl rfl))
  case unknownCommandCode port w =>
    refine execUnknownCommandCode_endsWithin s w port ?_ ?_
    · rintro rfl
      exact .inr (.inl ⟨w, rfl, rfl⟩)
    · rintro rfl
      exact .inr (.inl ⟨w, rfl, rfl⟩)
  case chanOpen => exact execChanOpen_endsWithin s mayWriteChannel_any
  case chanListen => exact execChanListen_endsWithin s mayWriteChannel_any
  case chanClose => exact execChanClose_endsWithin s mayWriteChannel_any
  case chanReset => exact execChanReset_endsWithin s mayWriteChannel_any
  case chanFlush => exact execChanFlush_endsWithin s mayWriteChannel_any
  case chanPost => exact execChanPost_endsWithin s mayWriteChannel_any
  case chanAbandon => exact execChanAbandon_endsWithin s mayWriteChannel_any
  case chanRelease => exact execChanRelease_endsWithin s mayWriteChannel_any
  case cdataWrite w => exact execCdataWrite_endsWithin s w
  case cdataRead => exact execCdataRead_endsWithin s
  case hcfgWrite w => exact execHcfgWrite_endsWithin s w (mayWriteDevice_wrongState w)
  case hdivWrite w => exact execHdivWrite_endsWithin s w (mayWriteDevice_wrongState w)
  case devpendWrite w => exact .live (.finish rfl)
  case devenWrite w => exact .live (.finish rfl)
  case ceventWrite w => exact .live (.finish rfl)
  case timingWrite w => exact execTimingWrite_endsWithin s w (mayWriteDevice_badConfig w)
  case timing2Write w => exact execTiming2Write_endsWithin s w (mayWriteDevice_badConfig w)
  case cqthrWrite w => exact execCqthrWrite_endsWithin s w (mayWriteDevice_badConfig w)
  case tselWrite w => exact execTselWrite_endsWithin s w (mayWriteDevice_badConfig w)
  case pendingBankWrite w =>
    exact execPendingBankWrite_endsWithin s w (mayWriteDevice_wrongState w) (mayWriteDevice_badConfig w)
  case regionTableWrite w =>
    exact execRegionTableWrite_endsWithin s w (mayWriteDevice_wrongState w) (mayWriteDevice_badConfig w)
  case configWordWrite w =>
    exact execConfigWordWrite_endsWithin s w (mayWriteDevice_wrongState w) (mayWriteDevice_badConfig w)
  case channelCounterRead => exact .tableAccess (.of_results rfl)
  case highwayCounterRead => exact .tableAccess (.of_results rfl)
  case tableRead => exact .tableAccess (.of_results rfl)
  case tableWriteIgnored w => exact .tableAccess (.of_results rfl)
  case registerWrite r w => exact execRegisterWrite_endsWithin s r w
  case resetPin asserted => exact execResetPin_endsWithin s asserted
  case acquirePulse clock => exact .live (.ite (.ite (.finish rfl) (.ite (.finish rfl) .idle)) .idle)
  case candidateHeader line => exact execCandidateHeader_endsWithin s line
  case syncMiss => exact .live (.ite .finish .idle)
  case holdoverMiss => exact .live (.ite .finish .idle)
  case misplacedPulse bit => exact .live (.ite (.ite .finish (.ite .finish .idle)) .idle)
  case followerHeaderSlot line => exact .live (.ite .finish .idle)
  case masterHeaderSlot line => exact .live (.ite (.ite .finish .finish) .idle)
  case mapSwitch => exact .live .finish
  case answerTimerExpiry c => exact .live .finish
  case probeTimerExpiry c => exact .live .finish
  case refreshTimerExpiry => exact .live .finish
  case txdataOffer n => exact execTxdataOffer_endsWithin s n
  case txdataReport line => exact execTxdataReport_endsWithin s line
  case drainCompletion c => exact .live .finish
  case txcontrolOffer n => exact execTxcontrolOffer_endsWithin s n
  case txcontrolReport line => exact execTxcontrolReport_endsWithin s line
  case rxdataWord n line => exact execRxdataWord_endsWithin s n line
  case rxcontrolWord n line => exact execRxcontrolWord_endsWithin s n line
  case unusedSlotWord n line => exact execUnusedSlotWord_endsWithin s n line
  case pulseAtExpectedBit => exact .live (.ite (.ite .finish (.ite .finish .idle)) .idle)

/-- Settles O4: command by command, the queue stays and a changed result is one that the command may write. -/
theorem resultsBelongToTheirCommands : Obligations.ResultsBelongToTheirCommands := by
  unfold Obligations.ResultsBelongToTheirCommands
  intro i s t hexec
  obtain ⟨hpending, hchannel, hdevice⟩ := exec_endsWithin i s t hexec
  exact ⟨hpending, hchannel, hdevice⟩

end Sys2Proof.Machine
end

section
/-! SUPPORT. One step is the command at the front of the queue (95 first line). -/

namespace Sys2Proof.Machine

-- One theorem after another, as in the tests: many at once ask for more threads than there are.
set_option Elab.async false

theorem step_of_pending {s : State} {i : Instr} {rest : List Instr} (h : s.pending = i :: rest) :
    step s = exec i { s with pending := rest } := by
  unfold step
  rw [h]

/-- On an empty queue the part idles (log entry 2). -/
theorem step_of_empty {s : State} (h : s.pending = []) : step s = .next s := by
  unfold step
  rw [h]

/-- Settles O1: by the form of the queue. -/
theorem stepRunsFrontCommand : Obligations.StepRunsFrontCommand := by
  unfold Obligations.StepRunsFrontCommand
  exact ⟨fun _ _ _ => step_of_pending, fun _ => step_of_empty⟩

/-- A property that every command keeps, and that the queue has no part in, is kept by every step. -/
theorem step_keeps {P : State → Prop} (hqueue : ∀ (s : State) (q : List Instr), P s → P { s with pending := q })
    (hexec : ∀ (i : Instr) (s : State), P s → Ensures (exec i s) P) {s t : State} (hs : P s)
    (h : step s = .next t) : P t := by
  cases hpending : s.pending with
  | nil =>
    rw [step_of_empty hpending] at h
    exact Ensures.next hs t h
  | cons i rest =>
    rw [step_of_pending hpending] at h
    exact hexec i _ (hqueue s rest hs) t h

end Sys2Proof.Machine
end

section
/-! SUPPORT. The bounds of the Buffer Memory: a store lies inside it, so that every step keeps its canonical form, and a
command that needs a word outside faults (03 R42, R46; log entry 5). -/

namespace Sys2Proof.Machine

-- One theorem after another, as in the tests: many at once ask for more threads than there are.
set_option Elab.async false

/-! ### Stores lie inside the memory -/

/-- From `m` to `m'` the Buffer Memory stayed, or one word of it was written. -/
def Memory.StoresInside (m m' : Memory) : Prop :=
  m' = m ∨ ∃ (a : Nat) (w : Word), a < Config.bufferWords ∧ m' = Memory.write m a w

theorem Memory.StoresInside.wf {m m' : Memory} (h : m.StoresInside m') (hwf : Memory.wf m = true) :
    Memory.wf m' = true := by
  rcases h with rfl | ⟨a, w, ha, rfl⟩
  · exact hwf
  · exact Memory.wf_write w hwf ha

/-- A CDATA write that would store outside the memory faults. -/
theorem execCdataWrite_storesInside (s : State) (w : Word) :
    Ensures (execCdataWrite w s) fun t => Memory.StoresInside s.memory t.memory := by
  refine .live (.inl rfl) fun _ => ?_
  dsimp only
  split_ifs with _ hinside
  · exact .next (.inr ⟨_, w, hinside, rfl⟩)
  · exact .fault _
  · exact .next (.inl rfl)

/-- A received word would be stored outside the memory when it is a data word that the receiving channel stores at a
position that does not exist. -/
theorem Channel.storesOutside_iff (ch : Channel) (frame : Word) (k : Kind) (p : Word) :
    ch.storesOutside frame (.word k p) = true ↔
      k.isData = true ∧ ch.receiving = true ∧ (ch.dataWord frame k).2 = true ∧
        Config.bufferWords ≤ ch.rxStoreAddr := by
  simp [Channel.storesOutside, and_assoc]

section
variable (s : State) (c : Chan)

/-- A data word that is not stored outside the memory is written inside it, or not at all (08 R136). -/
theorem State.takeData_storesInside {k : Kind} {p : Word} (hdata : k.isData = true)
    (hreceiving : (s.chan c).receiving = true)
    (hin : (s.chan c).storesOutside s.hwi.frame (.word k p) = false) :
    Memory.StoresInside s.memory (s.takeData c k p).memory := by
  unfold State.takeData
  dsimp only
  split
  · rename_i hstored
    have hinside : (s.chan c).rxStoreAddr < Config.bufferWords := by
      by_contra hpast
      rw [((s.chan c).storesOutside_iff _ k p).mpr ⟨hdata, hreceiving, hstored, Nat.le_of_not_lt hpast⟩] at hin
      cases hin
    exact .inr ⟨_, p, hinside, rfl⟩
  · exact .inl rfl

/-- A word that is handed to a channel stores inside the memory when it does not store outside (08 R130, R131). -/
theorem State.receiveData_storesInside {w : Received} (hin : (s.chan c).storesOutside s.hwi.frame w = false) :
    Memory.StoresInside s.memory (s.receiveData c w).memory := by
  cases w with
  | checkError =>
    unfold State.receiveData
    dsimp only
    split <;> exact .inl rfl
  | word k p =>
    cases hdata : k.isData with
    | true =>
      rw [State.receiveData_data s c p hdata]
      split
      · rename_i hreceiving
        exact s.takeData_storesInside c hdata hreceiving hin
      · exact .inl rfl
    | false =>
      cases k
      case control | header | fill | idle => exact .inl rfl
      all_goals cases hdata

end

@[simp] theorem State.screen_frame (s : State) (w : Received) : (s.screen w).hwi.frame = s.hwi.frame := by
  unfold State.screen
  split <;> rfl

/-- A word of an RxData slot that would be stored outside the memory faults. -/
theorem execRxdataWord_storesInside (s : State) (n : Slot) (line : SlotBits) :
    Ensures (execRxdataWord n line s) fun t => Memory.StoresInside s.memory t.memory := by
  have hscreened := fun w => (Steady.screened s n w).memory
  refine .live (.inl rfl) fun _ => ?_
  dsimp only
  split
  · rename_i c _ _
    split
    · exact .fault _
    · rename_i hin
      refine .next ?_
      rw [State.evaluate_memory, ← hscreened (receive line)]
      refine State.receiveData_storesInside _ c ?_
      rw [State.chan_screen, State.chan_enterSlot, State.screen_frame, State.enterSlot_hwi]
      simpa only [Bool.not_eq_true] using hin
  · exact .next (.inl rfl)

/-- The rows that store write inside the memory, RESET# empties it, and the other rows leave it as it is. -/
theorem exec_keepsCanonical (i : Instr) (s : State) (hwf : Memory.wf s.memory = true) :
    Ensures (exec i s) fun t => Memory.wf t.memory = true := by
  cases hrow : storesOrResets i with
  | false =>
    refine (exec_movesInPlace s hrow).mono fun t ht => ?_
    rw [ht.memory]
    exact hwf
  | true =>
    cases i
    case cdataWrite w => exact (execCdataWrite_storesInside s w).mono fun t ht => ht.wf hwf
    case rxdataWord n line => exact (execRxdataWord_storesInside s n line).mono fun t ht => ht.wf hwf
    case softreset =>
      refine (execSoftreset_memory s).mono fun t ht => ?_
      rw [ht]
      exact hwf
    case resetPin asserted =>
      cases asserted
      · exact .next hwf
      · exact .next reset_memory_wf
    all_goals cases hrow

/-- Settles O7: every command keeps the form, and the queue has no part in it. -/
theorem memoryStaysCanonical : Obligations.MemoryStaysCanonical := by
  unfold Obligations.MemoryStaysCanonical
  intro s t hwf hstep
  exact step_keeps (P := fun s => Memory.wf s.memory = true) (fun _ _ => id) exec_keepsCanonical hwf hstep

/-! ### Words outside the memory -/

theorem State.driveAnswer_outside (s : State) (n : Slot) (c : Chan) {a : Answer} {addr : Nat}
    (hsource : a.source = some addr) (hpast : 4096 ≤ addr) :
    s.driveAnswer n c a = .fault (.bufferAddress addr) := by
  unfold State.driveAnswer
  rw [hsource]
  exact if_neg (Nat.not_lt_of_le hpast)

section
variable {s : State} (hlive : s.resetPin = false)
include hlive

theorem exec_cdataWrite_outside (w : Word) (htaken : (s.chan s.host.selected).writeTaken = true)
    (hpast : 4096 ≤ (s.chan s.host.selected).txStoreAddr) :
    exec (.cdataWrite w) s = .fault (.bufferAddress (s.chan s.host.selected).txStoreAddr) :=
  (whenLive_live _ hlive).trans ((if_pos htaken).trans (if_neg (Nat.not_lt_of_le hpast)))

theorem exec_cdataRead_outside {r : RxRecord} {rest : List RxRecord}
    (hrecords : (s.chan s.host.selected).rx.records = r :: rest) (hunread : r.readPos < r.length)
    (hpast : 4096 ≤ (s.chan s.host.selected).rxRegion.wordAt (s.chan s.host.selected).rx.free r.readPos) :
    exec .cdataRead s = .fault (.bufferAddress
      ((s.chan s.host.selected).rxRegion.wordAt (s.chan s.host.selected).rx.free r.readPos)) := by
  refine (whenLive_live _ hlive).trans ?_
  dsimp only
  rw [hrecords]
  exact (if_pos hunread).trans (if_neg (Nat.not_lt_of_le hpast))

theorem exec_rxdataWord_outside {n : Slot} {c : Chan} {line : SlotBits} (hquiet : s.quiet = true)
    (hready : s.slotReady n = true) (huse : s.entryOf n = .rxData c)
    (hout : (s.chan c).storesOutside s.hwi.frame (receive line) = true) :
    exec (.rxdataWord n line) s = .fault (.bufferAddress (s.chan c).rxStoreAddr) := by
  refine (whenLive_live _ hlive).trans ?_
  rw [State.takeDue_of_quiet hquiet]
  dsimp only
  rw [hready, huse]
  exact if_pos hout

end

/-- A region that lies inside the memory has every word there (03 R42, R46). -/
theorem Region.wordAt_lt {r : Region} (hinside : r.inside = true) (hsize : 0 < r.size) (free k : Nat) :
    r.wordAt free k < 4096 := by
  have hend : r.base + r.size ≤ 256 := r.inside_iff.mp hinside (Nat.ne_of_gt hsize)
  have hplace : (free + k) % (16 * r.size) < 16 * r.size := Nat.mod_lt _ (by omega)
  unfold Region.wordAt Region.capacity
  omega

/-- Settles O43: each access at a position that does not exist, and the words of a region inside. -/
theorem wordsOutsideTheMemoryFault : Obligations.WordsOutsideTheMemoryFault := by
  unfold Obligations.WordsOutsideTheMemoryFault
  rintro s ch c hlive rfl
  refine ⟨?_, ?_, fun n a addr hquiet hready huse hoffer hsource hpast => ?_,
    fun n k p hquiet hready huse hdata hreceiving hstored hpast => ?_,
    fun htx hrx free k => ⟨fun hsize => Region.wordAt_lt htx hsize free k,
      fun hsize => Region.wordAt_lt hrx hsize free k⟩⟩
  · rintro w rfl
    exact exec_cdataWrite_outside hlive w
  · rintro r rest rfl
    exact exec_cdataRead_outside hlive
  · rw [exec_txdataOffer_some hlive hquiet hready huse hoffer]
    exact State.driveAnswer_outside s n c hsource hpast
  · refine exec_rxdataWord_outside hlive hquiet hready huse ?_
    rw [receive_slotWord]
    exact (Channel.storesOutside_iff _ _ k p).mpr ⟨hdata, hreceiving, hstored, hpast⟩

end Sys2Proof.Machine
end

section
/-! SUPPORT. Commands whose event cannot occur in the state found: each leaves the part as it is (log entries 6, 29). -/

namespace Sys2Proof.Machine

-- One theorem after another, as in the tests: many at once ask for more threads than there are.
set_option Elab.async false

/-- What does nothing on a live part does nothing. -/
theorem whenLive_idle {s : State} {k : Out} (h : k = .next s) : whenLive s k = .next s := by
  rw [h]
  exact ite_self _

/-! ### HSYNC at a bit clock that is past (01 R1; log entry 29) -/

/-- HSYNC found at a bit clock that is past is neither a pulse nor held. -/
theorem Highway.ite_hsync_past {h : Highway} {k a : Nat} (ha : h.hsyncBit = some a) (hk : k ≤ a) {α : Type}
    (x y z : α) : (if h.pulseAt k = true then x else if h.heldAt k = true then y else z) = z := by
  have hpulse : ¬ h.pulseAt k = true := fun hp => by
    have hlater : a + 1 < k := (h.pulseAt_iff k).mp hp a ha
    omega
  have hheld : ¬ h.heldAt k = true := fun hh => by
    obtain ⟨b, hb, rfl⟩ := (h.heldAt_iff k).mp hh
    cases ha.symm.trans hb
    omega
  rw [if_neg hpulse, if_neg hheld]

section
variable {s : State}

/-! ### Acquisition and frames (01 R12 to R14) -/

theorem exec_acquirePulse_idle {k : Nat}
    (h : s.hwi.sync ≠ .acquire ∨ ∃ a, s.hwi.hsyncBit = some a ∧ k ≤ a) : exec (.acquirePulse k) s = .next s := by
  refine whenLive_idle ?_
  rcases h with hsync | ⟨a, ha, hk⟩
  · exact if_neg hsync
  · dsimp only
    rw [Highway.ite_hsync_past ha hk, ite_self]

theorem exec_candidateHeader_idle {line : SlotBits} (h : s.hwi.sync ≠ .acquire ∨ s.hwi.candidate = false) :
    exec (.candidateHeader line) s = .next s := by
  refine whenLive_idle (if_neg ?_)
  rintro ⟨hsync, hcandidate⟩
  rcases h with hne | hnone
  · exact hne hsync
  · simp [hnone] at hcandidate

/-- A Master, or a part in another sync state or inside a slot, misses no pulse. -/
theorem Highway.not_missing {h : Highway} {sync : Sync}
    (hno : h.role = .master ∨ h.sync ≠ sync ∨ h.betweenSlots = false) :
    ¬ (h.role = .follower ∧ h.sync = sync ∧ h.betweenSlots = true) := by
  rintro ⟨hrole, hsync, hbetween⟩
  rcases hno with hmaster | hne | hinside
  · simp [hmaster] at hrole
  · exact hne hsync
  · simp [hinside] at hbetween

theorem exec_syncMiss_idle (h : s.hwi.role = .master ∨ s.hwi.sync ≠ .locked ∨ s.hwi.betweenSlots = false) :
    exec .syncMiss s = .next s := whenLive_idle (if_neg (Highway.not_missing h))

theorem exec_holdoverMiss_idle
    (h : s.hwi.role = .master ∨ s.hwi.sync ≠ .holdover ∨ s.hwi.betweenSlots = false) :
    exec .holdoverMiss s = .next s := whenLive_idle (if_neg (Highway.not_missing h))

theorem exec_misplacedPulse_idle {k : Nat} (h : s.hwi.followerRuns = false ∨ k = 0 ∨ 20 * s.slots ≤ k ∨
    ∃ a, s.hwi.hsyncBit = some a ∧ s.hwi.frameBit + k ≤ a) : exec (.misplacedPulse k) s = .next s := by
  refine whenLive_idle ?_
  dsimp only
  rcases h with hruns | hfirst | hlast | ⟨a, ha, hk⟩
  · exact if_neg fun hguard => by simp [hruns] at hguard
  · exact if_neg fun hguard => by omega
  · exact if_neg fun hguard => by omega
  · rw [Highway.ite_hsync_past ha hk, ite_self]

theorem exec_pulseAtExpectedBit_idle (h : s.hwi.followerRuns = false ∨ s.hwi.betweenSlots = false ∨
    ∃ a, s.hwi.hsyncBit = some a ∧ s.hwi.frameBit + 20 * s.slots ≤ a) : exec .pulseAtExpectedBit s = .next s := by
  refine whenLive_idle ?_
  dsimp only
  rcases h with hruns | hinside | ⟨a, ha, hk⟩
  · exact if_neg fun hguard => by simp [hruns] at hguard
  · exact if_neg fun hguard => by simp [hinside] at hguard
  · have hpast : s.hwi.expectedBit ≤ a := hk
    rw [Highway.ite_hsync_past ha hpast, ite_self]

/-! ### Slot 0 (01 R7, R8) -/

/-- Outside slot 0 a Follower's frame begins with the header slot in LOCKED, between frames, on a pulse, or not at all
(log entry 11). -/
theorem Highway.not_followerHeaderReady {h : Highway} (hno : h.followerRuns = false ∨ (h.position ≠ .header ∧
    (h.betweenSlots = false ∨ h.sync = .holdover ∨ ∃ a, h.hsyncBit = some a ∧ h.expectedBit ≤ a + 1))) :
    ¬ h.followerHeaderReady = true := by
  intro hready
  simp only [Highway.followerHeaderReady, Bool.and_eq_true, Bool.or_eq_true, beq_iff_eq] at hready
  obtain ⟨hruns, hbegun⟩ := hready
  rcases hno with hstopped | ⟨hpos, hno⟩
  · simp [hstopped] at hruns
  · obtain ⟨⟨hlocked, hbetween⟩, hpulse⟩ := hbegun.resolve_left hpos
    rcases hno with hinside | hholdover | ⟨a, ha, hpast⟩
    · simp [hinside] at hbetween
    · simp [hholdover] at hlocked
    · have hlater : a + 1 < h.expectedBit := (h.pulseAt_iff _).mp hpulse a ha
      omega

theorem exec_followerHeaderSlot_idle {line : SlotBits} (h : s.hwi.followerRuns = false ∨
    (s.hwi.position ≠ .header ∧ (s.hwi.betweenSlots = false ∨ s.hwi.sync = .holdover ∨
      ∃ a, s.hwi.hsyncBit = some a ∧ s.hwi.frameBit + 20 * s.slots ≤ a + 1))) :
    exec (.followerHeaderSlot line) s = .next s := whenLive_idle (if_neg (Highway.not_followerHeaderReady h))

theorem exec_masterHeaderSlot_idle {line : SlotBits} (h : s.hwi.masterRuns = false ∨
    (s.hwi.position ≠ .header ∧ s.hwi.betweenSlots = false)) : exec (.masterHeaderSlot line) s = .next s := by
  refine whenLive_idle (if_neg ?_)
  rintro ⟨hruns, hready⟩
  rcases h with hstopped | ⟨hpos, hinside⟩
  · simp [hstopped] at hruns
  · rcases hready with hheader | hbetween
    · exact hpos hheader
    · simp [hinside] at hbetween

/-! ### Slots that cannot begin, or are of another use (01 R4, R6, Table 12) -/

/-- Each event that begins a slot looks whether the slot can begin and whether its active entry is of its use. -/
theorem exec_slotEvents_idle (n : Slot) (line : SlotBits) :
    (s.takeDue.slotReady n = false ∨ (∀ c, s.takeDue.entryOf n ≠ .txData c) → exec (.txdataOffer n) s = .next s) ∧
    (s.takeDue.slotReady n = false ∨ s.takeDue.entryOf n ≠ .txControl → exec (.txcontrolOffer n) s = .next s) ∧
    (s.takeDue.slotReady n = false ∨ (∀ c, s.takeDue.entryOf n ≠ .rxData c) →
      exec (.rxdataWord n line) s = .next s) ∧
    (s.takeDue.slotReady n = false ∨ (∀ p, s.takeDue.entryOf n ≠ .rxControl p) →
      exec (.rxcontrolWord n line) s = .next s) ∧
    (s.takeDue.slotReady n = false ∨ s.takeDue.entryOf n ≠ .unused → exec (.unusedSlotWord n line) s = .next s) := by
  refine ⟨fun h => whenLive_idle ?_, fun h => whenLive_idle ?_, fun h => whenLive_idle ?_,
    fun h => whenLive_idle ?_, fun h => whenLive_idle ?_⟩
  all_goals
    split
    · rename_i hready huse
      simp [hready, huse] at h
    · rfl

/-! ### Reports without a word of their use on the line (01 R5) -/

theorem exec_txcontrolReport_idle {line : SlotBits} (h : ∀ bits, s.hwi.line ≠ some ⟨bits, .control⟩) :
    exec (.txcontrolReport line) s = .next s := by
  refine whenLive_idle ?_
  cases hline : s.hwi.line with
  | none => rfl
  | some l =>
    obtain ⟨bits, owner⟩ := l
    cases owner
    case control => exact absurd hline (h bits)
    all_goals rfl

theorem exec_txdataReport_idle {line : SlotBits}
    (h : s.hwi.line = none ∨ ∃ bits, s.hwi.line = some ⟨bits, .control⟩) :
    exec (.txdataReport line) s = .next s := by
  refine whenLive_idle ?_
  rcases h with hline | ⟨bits, hline⟩
  · rw [hline]
  · rw [hline]

/-! ### Tables that TSEL does not name, and listed codes (11 R171, R173) -/

theorem tableAccess_other {act : State} {tables : List Nat} (h : s.host.table ∉ tables) :
    tableAccess s tables act = .next s := whenLive_idle (if_neg h)

theorem exec_unknownCommandCode_listed {port : CmdPort} {w : Word} (h : listedCode port w = true) :
    exec (.unknownCommandCode port w) s = .next s :=
  whenLive_idle (if_pos ((codeListed_eq_listedCode port w).trans h))

end

theorem listedCode_device {w : Word} (hlow : 1 ≤ (w.extractLsb' 0 4).toNat)
    (hhigh : (w.extractLsb' 0 4).toNat ≤ 6) : listedCode .device w = true :=
  Bool.eq_true_of_not_eq_false fun hno => by
    have hcode := (listedCode_device_eq_false w).mp hno
    omega

theorem listedCode_channel {w : Word} (hlow : 1 ≤ (w.extractLsb' 0 4).toNat)
    (hhigh : (w.extractLsb' 0 4).toNat ≤ 8) : listedCode .channel w = true :=
  Bool.eq_true_of_not_eq_false fun hno => by
    have hcode := (listedCode_channel_eq_false w).mp hno
    omega

/-- Settles O21: event by event, by the test that rules it out. -/
theorem eventsOutOfPlaceChangeNothing : Obligations.EventsOutOfPlaceChangeNothing := by
  unfold Obligations.EventsOutOfPlaceChangeNothing
  intro s n line k w
  obtain ⟨htxdata, htxcontrol, hrxdata, hrxcontrol, hunused⟩ := exec_slotEvents_idle (s := s) n line
  exact ⟨exec_acquirePulse_idle, exec_candidateHeader_idle, exec_syncMiss_idle, exec_holdoverMiss_idle,
    exec_misplacedPulse_idle, exec_pulseAtExpectedBit_idle, exec_followerHeaderSlot_idle, exec_masterHeaderSlot_idle,
    htxdata, htxcontrol, hrxdata, hrxcontrol, hunused, exec_txcontrolReport_idle, exec_txdataReport_idle,
    fun h => tableAccess_other (by simpa using h), fun h => tableAccess_other (by simpa using h),
    fun h => tableAccess_other (by simpa using h), fun h => tableAccess_other (by simpa using h),
    fun h => tableAccess_other (by simpa using h), fun h => tableAccess_other (by simp; omega),
    fun h1 h4 h5 => tableAccess_other (by simp [h1, h4, h5]),
    fun hlow hhigh => exec_unknownCommandCode_listed (listedCode_device hlow hhigh),
    fun hlow hhigh => exec_unknownCommandCode_listed (listedCode_channel hlow hhigh)⟩

end Sys2Proof.Machine
end
